-- ==== Sys2Proof/Word.lean ====
section
/-! DEFINITION. The word of the uplink control stream (00_scope.md section 1.1: a serial stream of 16-bit words)
and its two plainest conversions. -/

namespace Sys2Proof

/-- One word of either port: 16 bits, most significant bit 15 (R165, R171). -/
abbrev Word := BitVec 16

/-- A non-negative quantity as one word. -/
def Word.ofNatural (n : Nat) : Word := BitVec.ofNat 16 n

/-- A signed quantity as one word in two's complement (R171, R179). -/
def Word.ofSigned (i : Int) : Word := BitVec.ofInt 16 i

end Sys2Proof
end

