-- ==== Sys2Proof/Syntax.lean ====
section
/-! DEFINITION. The commands of the NT4210: one constructor of `Instr` for each row of spec/opcode_table.json.

A command is what reaches the part from outside (a frame received whole at a port, a word received, an edge of a pin,
a supply or the reference clock), an output that becomes free, or one of the events of a governor tick. -/

namespace Sys2Proof

/-- One of the two incoming streams (R165): downstream words arrive at the modem-side port, upstream words at the
transceiver-side port. -/
inductive Stream where
  | downstream
  | upstream
  deriving DecidableEq, Repr

/-- One of the four transmit chains (00_scope.md section 1.3). -/
abbrev Chain := Fin 4

/-- The twelve observation kinds other than NONE (chapter 7, section 7.2). -/
inductive ObsKind where
  | dieA
  | dieB
  | board
  | fwd (c : Chain)
  | refl (c : Chain)
  | battV
  deriving DecidableEq, Repr

/-- The blocks that take work of their own at a governor tick (R149, R151). Configuration Banks, the sixth block the
tick reaches, works only as part of the Grant Engine's change to QUIET (R125). -/
inductive TickBlock where
  /-- Thermal Estimator: the tick update (R36). -/
  | te
  /-- Telemetry Intake: the ageing of observations (R140). -/
  | ti
  /-- Mismatch Supervisor: recovery, severe and park timing (R60 to R62). -/
  | ms
  /-- Supply Allocator: the window counter and the rotation (R78, R79). -/
  | sa
  /-- Grant Engine: slew ages and quiet count (R16, R28). -/
  | ge
  deriving DecidableEq, Repr

/-- The two parts of the row TICK: the Tick Generator produces and numbers a tick (R149), and a tick already produced
reaches further blocks (R151). -/
inductive TickPhase where
  | produce
  | deliver
  deriving DecidableEq, Repr

/-- A frame as it stands on a stream (section 10.1). The header's payload length is the length of `payload`, and its
reserved bits are 0, since a word with other reserved bits is no header (R165). -/
structure Frame where
  /-- Header bits 15..12. -/
  kind : BitVec 4
  /-- Header bits 6..3. -/
  tag : BitVec 4
  /-- The payload words, 0 to 31 of them. -/
  payload : List Word
  /-- The last word. -/
  check : Word
  deriving DecidableEq, Repr

/-- What a frame holds beside its kind, for the rows that fix the kind. -/
structure FrameBody where
  tag : BitVec 4
  payload : List Word
  check : Word
  deriving DecidableEq, Repr

/-- The two parts of the row TELEMETRY (R131): the frame is received whole, or the handling of the frame already received
goes on. Events at the consumers may fall between the parts, and so between any two deliveries of one frame. -/
inductive TelemetryPart where
  | frame (b : FrameBody)
  | further
  deriving DecidableEq, Repr

/-- What a GOVERNOR REQUEST with a good check word holds beside the request code that its row fixes (section 11.1). -/
structure Request where
  /-- The tag of the frame header, which the RESPONSE carries again (R171). -/
  tag : BitVec 4
  /-- Bits 9..0 of the request word: the form field and the reserved bits. -/
  low : BitVec 10
  /-- The words after the request word that are the row's operands. -/
  args : List Word
  deriving DecidableEq, Repr

/-- The commands: one constructor for each row of spec/opcode_table.json, in the table's order. -/
inductive Instr where
  /-- SLOT_ORDER (R1): a downstream SLOT ORDER frame is received whole. -/
  | slotOrder (b : FrameBody)
  /-- TELEMETRY (R130): an upstream TELEMETRY frame is received whole, or its handling goes on, by a number of reading
  words (R131). -/
  | telemetry (p : TelemetryPart) (count : Nat)
  /-- UPSTREAM_TRANSIT_FRAME (R168). -/
  | upstreamTransitFrame (f : Frame)
  /-- DOWNSTREAM_TRANSIT_FRAME (R166). -/
  | downstreamTransitFrame (f : Frame)
  /-- REQUEST_DISCARDED (R166): a GOVERNOR REQUEST with a bad check word. -/
  | requestDiscarded (b : FrameBody)
  /-- REQUEST_DROPPED (R167): a GOVERNOR REQUEST with a good check word, any payload, at a full insert queue. -/
  | requestDropped (tag : BitVec 4) (payload : List Word)
  /-- IDENTIFY (R175). -/
  | identify (r : Request)
  /-- MODE_SET (R176). -/
  | modeSet (r : Request)
  /-- PARAM_WRITE (R177): of a parameter with no write behaviour of its own. -/
  | paramWrite (r : Request)
  /-- TICK_CODE_WRITE (R147): the operand words follow the parameter id 30. -/
  | tickCodeWrite (r : Request)
  /-- BOARD_FALLBACK_WRITE (R33): the operand words follow the parameter id 13. -/
  | boardFallbackWrite (r : Request)
  /-- NOTICE_ENABLE_WRITE (R162): the operand words follow the parameter id 35. -/
  | noticeEnableWrite (r : Request)
  /-- NOTICE_LATCH_WRITE (R162): the operand words follow the parameter id 36. -/
  | noticeLatchWrite (r : Request)
  /-- PARAM_READ (R178). -/
  | paramRead (r : Request)
  /-- CHAIN_WRITE (R115). -/
  | chainWrite (r : Request)
  /-- RULE_WRITE (R115). -/
  | ruleWrite (r : Request)
  /-- HEADER_WRITE (R115). -/
  | headerWrite (r : Request)
  /-- COPY (R119). -/
  | copy (r : Request)
  /-- FLIP (R121). -/
  | flip (r : Request)
  /-- FLIP_CANCEL (R124). -/
  | flipCancel (r : Request)
  /-- TABLE_READ (R120). -/
  | tableRead (r : Request)
  /-- CURVE_OPEN (R96). -/
  | curveOpen (r : Request)
  /-- CURVE_DATA (R98). -/
  | curveData (r : Request)
  /-- CURVE_READ (R106). -/
  | curveRead (r : Request)
  /-- MAP_WRITE (R133). -/
  | mapWrite (r : Request)
  /-- MAP_READ (R134). -/
  | mapRead (r : Request)
  /-- STATE_READ (R179). -/
  | stateRead (r : Request)
  /-- LOG_READ (R158). -/
  | logRead (r : Request)
  /-- LOG_FLUSH (R159). -/
  | logFlush (r : Request)
  /-- NOTICE_CLEAR (R163). -/
  | noticeClear (r : Request)
  /-- SOFT_RESET (R183). -/
  | softReset (r : Request)
  /-- TICK (R149): the listed blocks take their work of the tick, in the listed order (R151). -/
  | tick (phase : TickPhase) (blocks : List TickBlock)
  /-- SLEW_EXPIRY (R16). -/
  | slewExpiry (c : Chain)
  /-- STREAM_QUIET (R28). -/
  | streamQuiet
  /-- OBSERVATION_STALE (R140). -/
  | observationStale (k : ObsKind)
  /-- WINDOW_ROTATION (R79). -/
  | windowRotation
  /-- RECOVERY (R60). -/
  | recovery (c : Chain)
  /-- PARKING (R61). -/
  | parking (c : Chain)
  /-- PARK_RELEASE (R62). -/
  | parkRelease (c : Chain)
  /-- UPSTREAM_OUTPUT_FRAME (R170). -/
  | upstreamOutputFrame
  /-- DOWNSTREAM_OUTPUT_FRAME (R166). -/
  | downstreamOutputFrame
  /-- POWER_ON_RESET (R182): the supplies come into range. -/
  | powerOnReset
  /-- SUPPLY_OUT_OF_RANGE (R182). -/
  | supplyOutOfRange
  /-- PIN_RESET_ASSERT (R182): RESETN goes low. -/
  | pinResetAssert
  /-- PIN_RESET_RELEASE (R182): RESETN returns high. -/
  | pinResetRelease
  /-- REFCLK_STOP (R146). -/
  | refclkStop
  /-- REFCLK_RESUME (R146). -/
  | refclkResume
  /-- UNKNOWN_REQUEST (R173): a GOVERNOR REQUEST with a good check word whose code lies outside 1..21 or whose
  payload is empty. -/
  | unknownRequest (tag : BitVec 4) (payload : List Word)
  /-- HEADER_WORD_RECEIVED (R165): one word arrives on an incoming stream. -/
  | headerWordReceived (st : Stream) (w : Word)
  deriving DecidableEq, Repr

end Sys2Proof
end

