-- ==== Sys2Proof/Machine/State.lean ====
section
/-! DEFINITION. The state of the NT4210, block by block as 00_scope.md section 2 lists them, with the reset values each
chapter gives, and the two kinds of stop. -/

namespace Sys2Proof.Machine

/-! ### Small named sets -/

/-- The two PA modules (00_scope.md section 1.3). -/
inductive Module where
  | a
  | b
  deriving DecidableEq, Repr

/-- The thermal zones, in their order COOL < WARM < HOT < CRITICAL (section 2.1). -/
inductive Zone where
  | cool
  | warm
  | hot
  | critical
  deriving DecidableEq, Repr

/-- The mismatch states, from better to worse (section 3.1). -/
inductive MismatchState where
  | matched
  | detuned
  | severe
  | parked
  deriving DecidableEq, Repr

/-- The charge states (chapter 4). -/
inductive ChargeState where
  | ok
  | capped
  deriving DecidableEq, Repr

/-- The governor modes (section 1.2). -/
inductive Mode where
  | fixed
  | monitor
  | active
  deriving DecidableEq, Repr

/-- The stream states (section 1.9). -/
inductive StreamState where
  | live
  | quiet
  deriving DecidableEq, Repr

/-- A power code: OFF, or a power in qdBm (00_scope.md section 3.1: OFF is a code, not a power). -/
inductive Power where
  | off
  | on (q : Int)
  deriving DecidableEq, Repr

/-- The final reasons of a grant (R20). -/
inductive Reason where
  | none
  | thermal
  | mismatch
  | rated
  | slew
  | floor
  | shed
  | current
  | parked
  | absent
  | duplicate
  | fixed
  deriving DecidableEq, Repr

/-- The kinds of curve (R92). -/
inductive CurveKind where
  | ceiling
  | heat
  | current
  | supply
  deriving DecidableEq, Repr

/-- Why a curve slot is INVALID (section 5.1). -/
inductive InvalidReason where
  | range
  | shape
  | abandoned
  deriving DecidableEq, Repr

/-- The points at which a flip may be applied (section 6.4). -/
inductive FlipPoint where
  | frame
  | quiet
  deriving DecidableEq, Repr

/-- The anchor match of a rule (section 6.1). -/
inductive AnchorMatch where
  | any
  | anchor
  | nonAnchor
  deriving DecidableEq, Repr

/-- The shed policy of a rule or of the default action (section 6.1). -/
inductive ShedPolicy where
  | default
  | allow
  | forbid
  deriving DecidableEq, Repr

/-- A descriptor's or header's curve reference: a slot or NONE (section 5.1). -/
inductive CurveRef where
  | none
  | slot (n : Fin 16)
  deriving DecidableEq, Repr

/-- A rule's or default action's ceiling: a slot or DEFAULT (R111, R112). -/
inductive CeilingRef where
  | default
  | slot (n : Fin 16)
  deriving DecidableEq, Repr

/-- The error kinds of a LINK record (section 9.2). -/
inductive LinkError where
  | check
  | malformed
  | overrun
  | droppedRequest
  deriving DecidableEq, Repr

/-- The reset causes (R181). -/
inductive ResetCause where
  | powerOn
  | pin
  | soft
  deriving DecidableEq, Repr

/-- The notice classes (section 9.6). -/
inductive NoticeClass where
  | zone
  | mismatch
  | shed
  | floor
  | charge
  | watermark
  | loss
  | flip
  | stale
  | link
  deriving DecidableEq, Repr

/-- A set of notice classes, class k in bit k (section 9.6). -/
abbrev ClassSet := BitVec 10

/-- The status codes of a RESPONSE (R173). -/
inductive Status where
  | ok
  | clamped
  | format
  | unknown
  | range
  | state
  | busy
  | notReady
  | length
  | inUse
  deriving DecidableEq, Repr

/-- The 36 parameters, in the order of their ids (section 11.4). -/
inductive ParamId where
  | fixedCeiling | slewExpiry | quietTicks | grantNotes | alpha | beta | gamma | kappa
  | warm | hot | critical | zoneHysteresis | boardFallback | detuneThreshold | severeThreshold | hysteresis
  | forwardFloor | confirm | recoverTicks | severeLimit | parkTicks | detuneBackoff | severeBackoff | probeCeiling
  | supplyFallback | sustainedCurrent | windowTicks | chargeAllowance | staleTicks | tickCode | logMode | watermark
  | grantDownsample | readingLog | noticeEnable | noticeLatch
  deriving DecidableEq, Repr

/-! ### Log records (section 9.2) -/

/-- One entry word of a GRANT record or of a GRANT NOTE. -/
structure GrantEntry where
  chain : Chain
  reason : Reason
  value : Power
  deriving DecidableEq, Repr

/-- The stored record kinds. The TIME record is never stored (R158). Every record carries the low 16 bits of the tick
count at which it was made (R149, R153); section 9.2 gives a word for it in the ZONE, MISMATCH, FLIP and STALE records
alone (assumption log entry 26). -/
inductive Record where
  | grant (monitor : Bool) (slot : Nat) (entries : List GrantEntry) (tick : Nat)
  | zone (m : Module) (old new : Zone) (theta : Int) (tick : Nat)
  | mismatch (c : Chain) (old new : MismatchState) (rl : Int) (tick : Nat)
  | charge (old new : ChargeState) (sum : Nat) (tick : Nat)
  | reading (k : ObsKind) (value : Int) (tick : Nat)
  | flip (newActive : Fin 2) (point : FlipPoint) (tick : Nat)
  | stale (becameStale : Bool) (k : ObsKind) (tick : Nat)
  | link (e : LinkError) (tick : Nat)
  | curve (slot : Fin 16) (reason : InvalidReason) (tick : Nat)
  | reset (cause : ResetCause) (tick : Nat)
  deriving DecidableEq, Repr

/-! ### Request Handler (chapter 11) -/

/-- RH: the parameter store and the reset cause record. -/
structure RequestHandler where
  /-- The 36 parameters, at index id − 1 (section 11.4). -/
  params : Vector Int 36
  /-- The last cause (R181). -/
  cause : ResetCause
  /-- The soft-reset count, 0..255 (R181). -/
  softCount : Nat
  deriving DecidableEq, Repr

/-- The defaults of section 11.4, in id order. -/
def defaultParams : Vector Int 36 :=
  #v[92, 8, 4, 0, 2, 64, 64, 32, 240, 320, 380, 12, 180, 40, 16, 8, 40, 3, 16, 128, 64, 8, 24, 40,
     1200, 900, 64, 36000000, 32, 4, 1, 384, 0, 8, 0, 0]

/-! ### Grant Engine (chapter 1) -/

/-- One chain's slew memory (R16). -/
structure SlewMemory where
  /-- Last grant, qdBm. -/
  last : Int
  valid : Bool
  /-- Ticks, 0..255. -/
  age : Nat
  deriving DecidableEq, Repr

/-- GE. -/
structure GrantEngine where
  mode : Mode
  slew : Vector SlewMemory 4
  stream : StreamState
  /-- Ticks since the last slot order, 0..255. -/
  quietCount : Nat
  deriving DecidableEq, Repr

/-- R30. -/
def GrantEngine.reset : GrantEngine :=
  { mode := .fixed, slew := Vector.replicate 4 { last := 0, valid := false, age := 0 }, stream := .quiet, quietCount := 0 }

/-! ### Thermal Estimator (chapter 2) -/

/-- One module's record (section 2.1). -/
structure ModuleRecord where
  /-- ρ, q°C, 0..1023. -/
  rise : Nat
  /-- E, heat units, 0..1,048,575. -/
  heat : Nat
  zone : Zone
  deriving DecidableEq, Repr

/-- TE. -/
structure ThermalEstimator where
  a : ModuleRecord
  b : ModuleRecord
  deriving DecidableEq, Repr

/-- R52. -/
def ThermalEstimator.reset : ThermalEstimator :=
  { a := { rise := 0, heat := 0, zone := .cool }, b := { rise := 0, heat := 0, zone := .cool } }

/-! ### Mismatch Supervisor (chapter 3) -/

/-- One chain's record (section 3.1). -/
structure ChainRecord where
  state : MismatchState
  /-- 0..14. -/
  confirm : Nat
  improving : Bool
  /-- 0..254. -/
  recovery : Nat
  /-- 0..254. -/
  severe : Nat
  /-- 0..255. -/
  park : Nat
  probe : Bool
  /-- −340..+340 qdB, or −512 when no reading has been evaluated. -/
  lastRL : Int
  deriving DecidableEq, Repr

/-- The record after a reset (R70) and after a flip reset (R67). -/
def ChainRecord.reset : ChainRecord :=
  { state := .matched, confirm := 0, improving := false, recovery := 0, severe := 0, park := 0, probe := false, lastRL := -512 }

/-! ### Supply Allocator (chapter 4) -/

/-- SA. -/
structure SupplyAllocator where
  /-- Position 0 oldest, position 15 open; each 0..16,777,215 mA·slot. -/
  buckets : Vector Nat 16
  /-- 0..268,435,440 mA·slot. -/
  windowSum : Nat
  /-- 1..255 between ticks. -/
  counter : Nat
  charge : ChargeState
  deriving DecidableEq, Repr

/-- R88. -/
def SupplyAllocator.reset : SupplyAllocator :=
  { buckets := Vector.replicate 16 0, windowSum := 0, counter := 64, charge := .ok }

/-! ### Curve Store (chapter 5) -/

/-- What a slot that is not EMPTY holds. -/
structure CurveData where
  kind : CurveKind
  x0 : Int
  /-- The step shift s, 0..7. -/
  shift : Nat
  /-- y[0] first, 0 to 17 signed values. -/
  ys : List Int
  deriving DecidableEq, Repr

/-- One curve slot (section 5.1). -/
inductive CurveSlot where
  | empty
  | loading (d : CurveData)
  | valid (d : CurveData)
  | invalid (r : InvalidReason) (d : CurveData)
  deriving DecidableEq, Repr

/-- The load cursor: the slot in LOADING and the y values it has received (section 5.1). -/
structure LoadCursor where
  slot : Fin 16
  cursor : Nat
  deriving DecidableEq, Repr

/-- CS. -/
structure CurveStore where
  slots : Vector CurveSlot 16
  cursor : Option LoadCursor
  deriving DecidableEq, Repr

/-- R108. -/
def CurveStore.reset : CurveStore := { slots := Vector.replicate 16 .empty, cursor := none }

/-! ### Configuration Banks (chapter 6) -/

/-- A chain descriptor (section 6.1). -/
structure Descriptor where
  present : Bool
  module : Module
  /-- 0..3; 0 is served first. -/
  priority : Nat
  /-- −200..+140 qdBm. -/
  rated : Int
  /-- −200..+140 qdBm, not above rated. -/
  floor : Int
  /-- 1..32 qdB. -/
  rise : Int
  ceiling : CurveRef
  heat : CurveRef
  current : CurveRef
  deriving DecidableEq, Repr

/-- The empty values of a descriptor (section 6.1). -/
def Descriptor.empty : Descriptor :=
  { present := false, module := .a, priority := 3, rated := -200, floor := -200, rise := 1, ceiling := .none, heat := .none,
    current := .none }

/-- A rule (section 6.1); member k of a mask is its bit k. -/
structure Rule where
  valid : Bool
  chains : BitVec 4
  bands : BitVec 16
  waveforms : BitVec 4
  zones : BitVec 4
  mismatches : BitVec 3
  anchor : AnchorMatch
  ceiling : CeilingRef
  /-- 0..63 qdB. -/
  backoff : Int
  shed : ShedPolicy
  logAlways : Bool
  deriving DecidableEq, Repr

/-- The empty values of a rule (section 6.1). -/
def Rule.empty : Rule :=
  { valid := false, chains := 15, bands := 65535, waveforms := 15, zones := 15, mismatches := 7, anchor := .any,
    ceiling := .default, backoff := 0, shed := .default, logAlways := false }

/-- The bank header (section 6.1). -/
structure Header where
  supply : CurveRef
  ceiling : CeilingRef
  /-- 0..63 qdB. -/
  backoff : Int
  shed : ShedPolicy
  deriving DecidableEq, Repr

/-- The empty values of a header: the factory default action (R112). -/
def Header.empty : Header := { supply := .none, ceiling := .default, backoff := 0, shed := .default }

/-- One configuration bank. -/
structure Bank where
  header : Header
  chains : Vector Descriptor 4
  rules : Vector Rule 32
  deriving DecidableEq, Repr

/-- An emptied bank (R128). -/
def Bank.empty : Bank :=
  { header := Header.empty, chains := Vector.replicate 4 Descriptor.empty, rules := Vector.replicate 32 Rule.empty }

/-- CB. -/
structure ConfigBanks where
  bank0 : Bank
  bank1 : Bank
  /-- The active bank id. -/
  active : Fin 2
  /-- The pending flip with its point. -/
  flip : Option FlipPoint
  deriving DecidableEq, Repr

/-- R128. -/
def ConfigBanks.reset : ConfigBanks := { bank0 := Bank.empty, bank1 := Bank.empty, active := 0, flip := none }

/-! ### Telemetry Intake (chapter 7) -/

/-- One telemetry map entry; no kind is the code NONE (R132). -/
structure MapEntry where
  kind : Option ObsKind
  /-- −128..+127. -/
  offset : Int
  deriving DecidableEq, Repr

/-- One observation (section 7.3). -/
structure Observation where
  value : Int
  /-- Ticks of freshness that remain, 0..255; 0 means stale. -/
  fresh : Nat
  saturated : Bool
  deriving DecidableEq, Repr

/-- TI. -/
structure TelemetryIntake where
  /-- One entry per channel. -/
  map : Vector MapEntry 16
  /-- One entry per kind other than NONE, in code order. -/
  obs : Vector Observation 12
  deriving DecidableEq, Repr

/-- R144. -/
def TelemetryIntake.reset : TelemetryIntake :=
  { map := Vector.replicate 16 { kind := none, offset := 0 }, obs := Vector.replicate 12 { value := 0, fresh := 0, saturated := false } }

/-! ### Tick Generator (chapter 8) -/

/-- TG. -/
structure TickGenerator where
  /-- Reference clock cycles counted toward the next base millisecond, 0..19,199 (R146). -/
  prescaler : Nat
  /-- Base milliseconds elapsed in the current tick period, 0..127. -/
  divider : Nat
  /-- The number of the most recent tick, 0..16,777,215. -/
  counter : Nat
  deriving DecidableEq, Repr

/-- R153. -/
def TickGenerator.reset : TickGenerator := { prescaler := 0, divider := 0, counter := 0 }

/-! ### Observation Log (chapter 9) -/

/-- OL. -/
structure ObservationLog where
  /-- The record store, oldest first. -/
  store : List Record
  /-- Words held, 0..512. -/
  fill : Nat
  /-- 0..65,535, saturating. -/
  lost : Nat
  /-- Low 16 bits of the tick counter at the first loss. -/
  firstLoss : Nat
  /-- 0..127. -/
  grantCounter : Nat
  /-- One per observation kind in code order, 0..127. -/
  readingCounters : Vector Nat 12
  deriving DecidableEq, Repr

/-- The emptied log, before its RESET record (R160). -/
def ObservationLog.reset : ObservationLog :=
  { store := [], fill := 0, lost := 0, firstLoss := 0, grantCounter := 0, readingCounters := Vector.replicate 12 0 }

/-! ### Notice Unit (chapter 9) -/

/-- NU; the enable set and the latch mode are parameters. -/
structure NoticeUnit where
  pending : ClassSet
  /-- Notice owed. -/
  owed : Bool
  deriving DecidableEq, Repr

/-- R164. -/
def NoticeUnit.reset : NoticeUnit := { pending := 0, owed := false }

/-! ### Link Interface (chapter 10) -/

/-- A receiver: SEEKING, or IN_FRAME with the words received so far, the header first (R165). -/
inductive RxState where
  | seeking
  | inFrame (words : List Word)
  deriving DecidableEq, Repr

/-- A frame of the insert queue. A waiting NOTICE keeps its class set open until it is sent (R169). -/
inductive GovFrame where
  | response (tag : BitVec 4) (payload : List Word)
  | notice (classes : ClassSet)
  | grantNote (payload : List Word)
  deriving DecidableEq, Repr

/-- An output in progress: the frame being sent and the words of it sent so far. -/
structure Sending where
  frame : Frame
  sent : Nat
  deriving DecidableEq, Repr

/-- The idle word: what an output sends when it has nothing to send (R165). -/
def idleWord : Word := 0xFFFF

/-- The sources of the upstream arbiter (R170). -/
inductive Source where
  | transit
  | insert
  deriving DecidableEq, Repr

/-- LI. -/
structure LinkInterface where
  /-- The receiver at the modem-side port. -/
  rxDown : RxState
  /-- The receiver at the transceiver-side port. -/
  rxUp : RxState
  /-- Downstream frames received whole and handled, not yet sent, in arrival order (R166, R172). -/
  downPath : List Frame
  /-- 0..2 whole upstream frames, oldest first. -/
  transit : List Frame
  /-- 0..4 whole frames, oldest first. -/
  insert : List GovFrame
  /-- The modem-side output in progress. -/
  outUp : Option Sending
  /-- The transceiver-side output in progress. -/
  outDown : Option Sending
  /-- The word on the modem-side output: of its frame, or idle (R165). -/
  wordUp : Word
  /-- The word on the transceiver-side output. -/
  wordDown : Word
  /-- The alternation memory. -/
  lastServed : Source
  deriving DecidableEq, Repr

/-- R172, for the power-on and pin resets; both outputs send idle words. -/
def LinkInterface.reset : LinkInterface :=
  { rxDown := .seeking, rxUp := .seeking, downPath := [], transit := [], insert := [], outUp := none, outDown := none,
    wordUp := idleWord, wordDown := idleWord, lastServed := .transit }

/-! ### Pins, and the work in hand -/

/-- What the supplies, RESETN and REFCLK show (section 8.9, R146, R182). -/
structure Pins where
  /-- A supply is out of range: the power-on reset holds. -/
  supplyOut : Bool
  /-- RESETN is low: the pin reset holds. -/
  resetLow : Bool
  /-- The reference clock is absent. -/
  refclkAbsent : Bool
  deriving DecidableEq, Repr

/-- The blocks that have yet to take their work of the last tick (R151). -/
structure TickOwed where
  te : Bool
  ti : Bool
  ms : Bool
  sa : Bool
  ge : Bool
  /-- A slot order was governed after that tick was produced and before GE took its work of it: the tick does not count
  toward QUIET (R152). -/
  ordered : Bool
  deriving DecidableEq, Repr

/-- A telemetry frame between two of its deliveries (R131): the frame, and its reading words not yet handled. -/
structure Intake where
  frame : Frame
  rest : List Word
  deriving DecidableEq, Repr

/-- The model's own record of an event that the manual lets other events fall into (assumption log entries 3 and 4). -/
structure InHand where
  tick : TickOwed
  intake : Option Intake
  deriving DecidableEq, Repr

/-- Nothing in hand. -/
def InHand.reset : InHand :=
  { tick := { te := false, ti := false, ms := false, sa := false, ge := false, ordered := false }, intake := none }

/-! ### The whole part -/

/-- The state of the NT4210: its twelve blocks, its pins, and the model's own two fields. -/
structure State where
  /-- Request Handler. -/
  rh : RequestHandler
  /-- Grant Engine. -/
  ge : GrantEngine
  /-- Thermal Estimator. -/
  te : ThermalEstimator
  /-- Mismatch Supervisor, one record per chain. -/
  ms : Vector ChainRecord 4
  /-- Supply Allocator. -/
  sa : SupplyAllocator
  /-- Curve Store. -/
  cs : CurveStore
  /-- Configuration Banks. -/
  cb : ConfigBanks
  /-- Telemetry Intake. -/
  ti : TelemetryIntake
  /-- Tick Generator. -/
  tg : TickGenerator
  /-- Observation Log. -/
  ol : ObservationLog
  /-- Notice Unit. -/
  nu : NoticeUnit
  /-- Link Interface. -/
  li : LinkInterface
  /-- Supplies, RESETN and REFCLK. -/
  pins : Pins
  /-- The model's own: events that have begun and not ended. -/
  inHand : InHand
  /-- The model's own: the commands that wait, first in, first out. -/
  pending : List Instr
  deriving DecidableEq, Repr

/-- The part right after the power-on reset is released (R182): every block at its reset values and one RESET record
with cause POWER_ON in the log. Supplies in range, RESETN high, reference clock present. -/
def State.reset : State :=
  { rh := { params := defaultParams, cause := .powerOn, softCount := 0 }
    ge := GrantEngine.reset
    te := ThermalEstimator.reset
    ms := Vector.replicate 4 ChainRecord.reset
    sa := SupplyAllocator.reset
    cs := CurveStore.reset
    cb := ConfigBanks.reset
    ti := TelemetryIntake.reset
    tg := TickGenerator.reset
    ol := { ObservationLog.reset with store := [.reset .powerOn 0], fill := 1 }
    nu := NoticeUnit.reset
    li := LinkInterface.reset
    pins := { supplyOut := false, resetLow := false, refclkAbsent := false }
    inHand := InHand.reset
    pending := [] }

/-- The reasons a step may stop with a fault. The manual gives every command an effect in every state, so there is
none: no command raises a fault (safe: nothing is left out by it). -/
inductive Fault where
  deriving DecidableEq, Repr

/-- The reasons a command may have no meaning. -/
inductive Refusal where
  /-- A command whose meaning is not written: raised by an arm of `exec` alone, and by none at present (safe: the run
  stops). -/
  | notModelled (mnemonic : String)
  deriving DecidableEq, Repr

end Sys2Proof.Machine
end

