-- ==== Sys2Proof/Machine/Operands.lean ====
section
/-! DEFINITION. The operand forms: bit fields of words, check words, the codes of the named sets, and how frames, slot
orders, readings and log records are laid out in words (chapters 9, 10 and 11). -/

namespace Sys2Proof.Machine

/-! ### Bit fields -/

/-- Bits lo+len−1 .. lo of a word, as an unsigned number (bit 15 is the most significant, R171). -/
def bits (w : Word) (lo len : Nat) : Nat := w.toNat / 2 ^ lo % 2 ^ len

/-- The two's complement value of an unsigned field of the given width (R171). -/
def signedField (width n : Nat) : Int := if n < 2 ^ (width - 1) then (n : Int) else (n : Int) - 2 ^ width

/-- Bit k of a word. -/
def bit (w : Word) (k : Nat) : Bool := w.toNat.testBit k

/-- A truth value in one bit. -/
def flagBit (b : Bool) : Nat := if b then 1 else 0

/-- Clamp to lo..hi (00_scope.md section 3.2). -/
def clamp (lo hi x : Int) : Int := if x < lo then lo else if hi < x then hi else x

/-! ### Check words (R165) -/

/-- One 16-bit addition with end-around carry: a carry out of bit 15 is added back into bit 0 (R165). -/
def endAroundAdd (a b : Word) : Word :=
  Word.ofNatural (if a.toNat + b.toNat < 65536 then a.toNat + b.toNat else a.toNat + b.toNat - 65536 + 1)

/-- The end-around-carry sum of a list of words (R165). -/
def endAroundSum (ws : List Word) : Word := ws.foldl endAroundAdd 0

/-- The header word of a frame: kind 15..12, payload length 11..7, tag 6..3, reserved bits 0 (section 10.1). -/
def headerWord (kind tag : BitVec 4) (payload : List Word) : Word :=
  Word.ofNatural (kind.toNat * 4096 + payload.length % 32 * 128 + tag.toNat * 8)

/-- The check word of a header and payload: the ones' complement of their end-around-carry sum (R165). -/
def checkWord (kind tag : BitVec 4) (payload : List Word) : Word :=
  ~~~ endAroundSum (headerWord kind tag payload :: payload)

/-- The words of a frame in order: header, payload, check word (section 10.1). -/
def frameWords (f : Frame) : List Word := headerWord f.kind f.tag f.payload :: f.payload ++ [f.check]

/-- A frame's check is good when the end-around-carry sum of all its words is 0xFFFF (R165). -/
def checkGood (f : Frame) : Bool := endAroundSum (frameWords f) == 0xFFFF

/-- A frame that the governor writes: its check word is that of R165. -/
def madeFrame (kind tag : BitVec 4) (payload : List Word) : Frame :=
  { kind := kind, tag := tag, payload := payload, check := checkWord kind tag payload }

/-- The frame whose words these are: the header's kind and tag, the words between header and check word, and the last
word (section 10.1). -/
def frameOfWords (ws : List Word) : Frame :=
  { kind := BitVec.ofNat 4 (bits (ws.getD 0 0) 12 4), tag := BitVec.ofNat 4 (bits (ws.getD 0 0) 3 4),
    payload := (ws.drop 1).dropLast, check := ws.getLastD 0 }

/-- The frame kinds of section 10.1. -/
def kindSlotOrder : BitVec 4 := 1
def kindTelemetry : BitVec 4 := 2
def kindGrantNote : BitVec 4 := 0xB
def kindRequest : BitVec 4 := 0xC
def kindResponse : BitVec 4 := 0xD
def kindNotice : BitVec 4 := 0xE

/-! ### Codes of the named sets -/

def Module.code : Module → Nat
  | .a => 0
  | .b => 1

/-- Section 2.1; the order of the zones is the order of the codes. -/
def Zone.code : Zone → Nat
  | .cool => 0
  | .warm => 1
  | .hot => 2
  | .critical => 3

/-- Section 3.1. -/
def MismatchState.code : MismatchState → Nat
  | .matched => 0
  | .detuned => 1
  | .severe => 2
  | .parked => 3

/-- Chapter 4. -/
def ChargeState.code : ChargeState → Nat
  | .ok => 0
  | .capped => 1

/-- Section 1.2. -/
def Mode.code : Mode → Nat
  | .fixed => 0
  | .monitor => 1
  | .active => 2

/-- The mode that a code names (R176). -/
def Mode.ofCode : Nat → Option Mode
  | 0 => some .fixed
  | 1 => some .monitor
  | 2 => some .active
  | _ => none

/-- R20. -/
def Reason.code : Reason → Nat
  | .none => 0
  | .thermal => 1
  | .mismatch => 2
  | .rated => 3
  | .slew => 4
  | .floor => 5
  | .shed => 6
  | .current => 7
  | .parked => 8
  | .absent => 9
  | .duplicate => 10
  | .fixed => 11

/-- R92. -/
def CurveKind.code : CurveKind → Nat
  | .ceiling => 0
  | .heat => 1
  | .current => 2
  | .supply => 3

/-- The curve kind that a code names (R96). -/
def CurveKind.ofCode : Nat → Option CurveKind
  | 0 => some .ceiling
  | 1 => some .heat
  | 2 => some .current
  | 3 => some .supply
  | _ => none

/-- Section 5.1. -/
def InvalidReason.code : InvalidReason → Nat
  | .range => 1
  | .shape => 2
  | .abandoned => 3

/-- Section 6.4. -/
def FlipPoint.code : FlipPoint → Nat
  | .frame => 0
  | .quiet => 1

/-- The point that a code names (R121). -/
def FlipPoint.ofCode : Nat → Option FlipPoint
  | 0 => some .frame
  | 1 => some .quiet
  | _ => none

/-- Section 6.1. -/
def AnchorMatch.code : AnchorMatch → Nat
  | .any => 0
  | .anchor => 1
  | .nonAnchor => 2

def AnchorMatch.ofCode : Nat → AnchorMatch
  | 1 => .anchor
  | 2 => .nonAnchor
  | _ => .any

/-- Section 6.1. -/
def ShedPolicy.code : ShedPolicy → Nat
  | .default => 0
  | .allow => 1
  | .forbid => 2

def ShedPolicy.ofCode : Nat → ShedPolicy
  | 1 => .allow
  | 2 => .forbid
  | _ => .default

/-- A curve reference word: 0..15 a slot, 16 NONE (section 10.4). -/
def CurveRef.code : CurveRef → Nat
  | .slot n => n.val
  | .none => 16

def CurveRef.ofCode (n : Nat) : CurveRef := if h : n < 16 then .slot ⟨n, h⟩ else .none

/-- A ceiling word: 0..15 a slot, 17 DEFAULT (section 10.4). -/
def CeilingRef.code : CeilingRef → Nat
  | .slot n => n.val
  | .default => 17

def CeilingRef.ofCode (n : Nat) : CeilingRef := if h : n < 16 then .slot ⟨n, h⟩ else .default

/-- Section 9.2. -/
def LinkError.code : LinkError → Nat
  | .check => 0
  | .malformed => 1
  | .overrun => 2
  | .droppedRequest => 3

/-- Section 9.2. -/
def ResetCause.code : ResetCause → Nat
  | .powerOn => 0
  | .pin => 1
  | .soft => 2

/-- The bit of a notice class (section 9.6). -/
def NoticeClass.bit : NoticeClass → ClassSet
  | .zone => 1
  | .mismatch => 2
  | .shed => 4
  | .floor => 8
  | .charge => 16
  | .watermark => 32
  | .loss => 64
  | .flip => 128
  | .stale => 256
  | .link => 512

/-- R173. -/
def Status.code : Status → Nat
  | .ok => 0
  | .clamped => 1
  | .format => 2
  | .unknown => 3
  | .range => 4
  | .state => 5
  | .busy => 6
  | .notReady => 7
  | .length => 8
  | .inUse => 9

/-- The kind codes of section 7.2. -/
def obsCode : ObsKind → Nat
  | .dieA => 1
  | .dieB => 2
  | .board => 3
  | .fwd c => 4 + c.val
  | .refl c => 8 + c.val
  | .battV => 12

/-- The place of a kind in the observation table and among the reading counters: code order, DIE_A first. -/
def obsIndex : ObsKind → Fin 12
  | .dieA => 0
  | .dieB => 1
  | .board => 2
  | .fwd c => ⟨3 + c.val, by omega⟩
  | .refl c => ⟨7 + c.val, by omega⟩
  | .battV => 11

/-- The twelve kinds in code order. -/
def obsAll : List ObsKind :=
  [.dieA, .dieB, .board, .fwd 0, .fwd 1, .fwd 2, .fwd 3, .refl 0, .refl 1, .refl 2, .refl 3, .battV]

/-- The kind that a code 1..12 names; 0 is NONE, and 13 to 15 name no kind (section 7.2). -/
def obsOfCode : Nat → Option ObsKind
  | 1 => some .dieA
  | 2 => some .dieB
  | 3 => some .board
  | 4 => some (.fwd 0)
  | 5 => some (.fwd 1)
  | 6 => some (.fwd 2)
  | 7 => some (.fwd 3)
  | 8 => some (.refl 0)
  | 9 => some (.refl 1)
  | 10 => some (.refl 2)
  | 11 => some (.refl 3)
  | 12 => some .battV
  | _ => none

/-- The domain to which an accepted reading of a kind is clamped (section 7.2). -/
def obsClamp : ObsKind → Int → Int
  | .dieA, v => clamp (-160) 600 v
  | .dieB, v => clamp (-160) 600 v
  | .board, v => clamp (-160) 600 v
  | .fwd _, v => clamp (-200) 140 v
  | .refl _, v => clamp (-200) 140 v
  | .battV, v => clamp 0 4095 v

/-! ### Parameters (section 11.4) -/

/-- The parameters in id order. -/
def ParamId.all : List ParamId :=
  [.fixedCeiling, .slewExpiry, .quietTicks, .grantNotes, .alpha, .beta, .gamma, .kappa,
   .warm, .hot, .critical, .zoneHysteresis, .boardFallback, .detuneThreshold, .severeThreshold, .hysteresis,
   .forwardFloor, .confirm, .recoverTicks, .severeLimit, .parkTicks, .detuneBackoff, .severeBackoff, .probeCeiling,
   .supplyFallback, .sustainedCurrent, .windowTicks, .chargeAllowance, .staleTicks, .tickCode, .logMode, .watermark,
   .grantDownsample, .readingLog, .noticeEnable, .noticeLatch]

/-- The place of a parameter in the store: its id less 1. -/
def ParamId.index : ParamId → Fin 36
  | .fixedCeiling => 0
  | .slewExpiry => 1
  | .quietTicks => 2
  | .grantNotes => 3
  | .alpha => 4
  | .beta => 5
  | .gamma => 6
  | .kappa => 7
  | .warm => 8
  | .hot => 9
  | .critical => 10
  | .zoneHysteresis => 11
  | .boardFallback => 12
  | .detuneThreshold => 13
  | .severeThreshold => 14
  | .hysteresis => 15
  | .forwardFloor => 16
  | .confirm => 17
  | .recoverTicks => 18
  | .severeLimit => 19
  | .parkTicks => 20
  | .detuneBackoff => 21
  | .severeBackoff => 22
  | .probeCeiling => 23
  | .supplyFallback => 24
  | .sustainedCurrent => 25
  | .windowTicks => 26
  | .chargeAllowance => 27
  | .staleTicks => 28
  | .tickCode => 29
  | .logMode => 30
  | .watermark => 31
  | .grantDownsample => 32
  | .readingLog => 33
  | .noticeEnable => 34
  | .noticeLatch => 35

/-- A parameter's id, 1..36. -/
def ParamId.id (p : ParamId) : Nat := p.index.val + 1

/-- The parameter that an id word names; an id outside 1..36 names none (R177, R178). -/
def ParamId.ofId : Nat → Option ParamId
  | 0 => none
  | n + 1 => ParamId.all[n]?

/-- The range of a parameter's stored value, as a number (section 11.4). -/
def ParamId.range : ParamId → Int × Int
  | .fixedCeiling => (-200, 140)
  | .slewExpiry => (1, 255)
  | .quietTicks => (1, 255)
  | .grantNotes => (0, 1)
  | .alpha => (0, 255)
  | .beta => (0, 4095)
  | .gamma => (0, 256)
  | .kappa => (0, 255)
  | .warm => (-160, 600)
  | .hot => (-160, 600)
  | .critical => (-160, 600)
  | .zoneHysteresis => (0, 80)
  | .boardFallback => (-160, 600)
  | .detuneThreshold => (1, 127)
  | .severeThreshold => (0, 126)
  | .hysteresis => (0, 64)
  | .forwardFloor => (-200, 140)
  | .confirm => (1, 15)
  | .recoverTicks => (1, 255)
  | .severeLimit => (1, 255)
  | .parkTicks => (1, 255)
  | .detuneBackoff => (0, 127)
  | .severeBackoff => (0, 127)
  | .probeCeiling => (-200, 140)
  | .supplyFallback => (0, 8191)
  | .sustainedCurrent => (0, 8191)
  | .windowTicks => (1, 255)
  | .chargeAllowance => (0, 268435455)
  | .staleTicks => (1, 255)
  | .tickCode => (0, 7)
  | .logMode => (0, 1)
  | .watermark => (1, 512)
  | .grantDownsample => (0, 7)
  | .readingLog => (0, 8)
  | .noticeEnable => (0, 1023)
  | .noticeLatch => (0, 1)

/-- The enumerated parameters, whose values outside the codes are refused RANGE, not clamped (R177, R163). -/
def ParamId.enumerated : ParamId → Bool
  | .grantNotes => true
  | .logMode => true
  | .readingLog => true
  | .noticeEnable => true
  | .noticeLatch => true
  | _ => false

/-! ### Slot orders (R2, R171) -/

/-- One entry of a slot order: its two words as received, and what they hold. -/
structure Entry where
  /-- The word of chain, band class, waveform class and anchor flag. -/
  head : Word
  /-- The word of the power field. -/
  tail : Word
  chain : Chain
  band : Nat
  waveform : Nat
  anchor : Bool
  /-- The request, clamped (R2). -/
  request : Power
  deriving DecidableEq, Repr

/-- A power field: −512 is OFF, any other value is clamped to −200..+140 (R2). -/
def requestedPower (w : Word) : Power :=
  if bits w 0 10 = 512 then .off else .on (clamp (-200) 140 (signedField 10 (bits w 0 10)))

/-- A power as a ten-bit field (R171). -/
def Power.field : Power → Nat
  | .off => 512
  | .on q => (BitVec.ofInt 10 q).toNat

/-- The entry that two payload words hold (R171). -/
def readEntry (head tail : Word) : Entry :=
  { head := head, tail := tail, chain := ⟨bits head 14 2, by unfold bits; omega⟩, band := bits head 10 4, waveform := bits head 8 2,
    anchor := bit head 7, request := requestedPower tail }

/-- The entries of a slot order's payload after its first word, in frame order (R171). -/
def readEntries : List Word → List Entry
  | head :: tail :: rest => readEntry head tail :: readEntries rest
  | _ => []

/-- The duration of a slot order, read as 1..14 (R2). -/
def readDuration (w : Word) : Nat := if bits w 11 4 = 0 then 1 else if bits w 11 4 = 15 then 14 else bits w 11 4

/-- A slot order's first payload word with its duration field rewritten (R2); every other bit stands. -/
def rewriteOrderWord (w : Word) : Word := Word.ofNatural (bits w 15 1 * 32768 + readDuration w * 2048 + bits w 0 11)

/-- An entry's power word with the outgoing power in its field; bits 15..10 stand (R2, R171). -/
def rewritePowerWord (w : Word) (p : Power) : Word := Word.ofNatural (bits w 10 6 * 1024 + p.field)

/-- The payload of a governed order: the outgoing powers written over the entries' power fields (R2). -/
def rewriteEntries : List Entry → List Power → List Word
  | e :: es, p :: ps => e.head :: rewritePowerWord e.tail p :: rewriteEntries es ps
  | _, _ => []

/-- A payload length of the form 1 + 2n with n from 0 to 4 (R1). -/
def orderLengthGood (n : Nat) : Bool := n % 2 == 1 && n ≤ 9

/-! ### Telemetry readings (R130, R171) -/

/-- The channel of a reading word. -/
def readingChannel (w : Word) : Fin 16 := ⟨bits w 12 4, by unfold bits; omega⟩

/-- The raw value of a reading word, −2048..+2047. -/
def readingRaw (w : Word) : Int := signedField 12 (bits w 0 12)

/-! ### Log records in words (section 9.2) -/

/-- The entry word of a GRANT record and of a GRANT NOTE. -/
def GrantEntry.word (g : GrantEntry) : Word := Word.ofNatural (g.chain.val * 16384 + g.reason.code * 1024 + g.value.field)

/-- A record's length in words. -/
def Record.length : Record → Nat
  | .grant _ _ es _ => 2 + es.length
  | .zone .. => 3
  | .mismatch .. => 3
  | .charge .. => 3
  | .reading .. => 2
  | .flip .. => 2
  | .stale .. => 2
  | .link .. => 1
  | .curve .. => 1
  | .reset .. => 1

/-- A record's header word: the kind in bits 15..12. -/
def recordHeader (kind rest : Nat) : Word := Word.ofNatural (kind * 4096 + rest)

/-- The words of a record, header first (section 9.2). -/
def Record.words : Record → List Word
  | .grant m slot es _ => recordHeader 1 (es.length * 512 + flagBit m * 256) :: Word.ofNatural slot :: es.map GrantEntry.word
  | .zone m o n θ t => [recordHeader 2 (m.code * 256 + o.code * 64 + n.code * 16), Word.ofSigned θ, Word.ofNatural t]
  | .mismatch c o n rl t => [recordHeader 3 (c.val * 256 + o.code * 64 + n.code * 16), Word.ofSigned rl, Word.ofNatural t]
  | .charge o n sum _ => [recordHeader 4 (o.code * 2 + n.code), Word.ofNatural (sum / 65536), Word.ofNatural (sum % 65536)]
  | .reading k v _ => [recordHeader 5 (obsCode k), Word.ofSigned v]
  | .flip b p t => [recordHeader 6 (b.val * 2 + p.code), Word.ofNatural t]
  | .stale s k t => [recordHeader 7 (flagBit s * 16 + obsCode k), Word.ofNatural t]
  | .link e _ => [recordHeader 8 e.code]
  | .curve n r _ => [recordHeader 9 (n.val * 4 + r.code)]
  | .reset c _ => [recordHeader 10 c.code]

/-- The TIME record, built from the tick counter, the lost count and the first-loss stamp (section 9.2, R158). -/
def timeRecord (counter lost firstLoss : Nat) : List Word :=
  [recordHeader 11 (counter / 65536), Word.ofNatural (counter % 65536), Word.ofNatural lost,
   Word.ofNatural (if lost = 0 then 0 else firstLoss)]

/-- The total length of a list of records. -/
def recordsLength (rs : List Record) : Nat := (rs.map Record.length).sum

/-! ### Governor frames (R171) -/

/-- A RESPONSE's status word: request code 15..10, status 9..6, MORE flag 0 (R171). -/
def statusWord (code : Nat) (st : Status) (more : Bool) : Word := Word.ofNatural (code * 1024 + st.code * 64 + flagBit more)

/-- A frame of the insert queue as it is sent. -/
def GovFrame.toFrame : GovFrame → Frame
  | .response tag payload => madeFrame kindResponse tag payload
  | .notice classes => madeFrame kindNotice 0 [Word.ofNatural classes.toNat]
  | .grantNote payload => madeFrame kindGrantNote 0 payload

/-- Whether a frame of the insert queue is a RESPONSE (R169). -/
def GovFrame.isResponse : GovFrame → Bool
  | .response .. => true
  | _ => false

/-- Whether a frame of the insert queue is a NOTICE. -/
def GovFrame.isNotice : GovFrame → Bool
  | .notice _ => true
  | _ => false

/-- The frame of a GOVERNOR REQUEST with a good check word. -/
def requestFrame (tag : BitVec 4) (payload : List Word) : Frame := madeFrame kindRequest tag payload

/-- The payload of a row's request: the request word with the row's code, then the operand words (section 11.1). -/
def requestPayload (code : Nat) (low : BitVec 10) (args : List Word) : List Word :=
  Word.ofNatural (code * 1024 + low.toNat) :: args

/-! ### Bank records packed (R180) -/

/-- A signed quantity as a ten-bit field. -/
def field10 (q : Int) : Nat := (BitVec.ofInt 10 q).toNat

/-- A descriptor in three words. -/
def Descriptor.packed (d : Descriptor) : List Word :=
  [Word.ofNatural (flagBit d.present * 32768 + d.module.code * 16384 + d.priority * 4096 + field10 d.rated),
   Word.ofNatural (d.rise.toNat * 1024 + field10 d.floor),
   Word.ofNatural (d.ceiling.code * 1024 + d.heat.code * 32 + d.current.code)]

/-- A rule in three words. -/
def Rule.packed (r : Rule) : List Word :=
  [Word.ofNatural r.bands.toNat,
   Word.ofNatural (r.chains.toNat * 4096 + r.waveforms.toNat * 256 + r.zones.toNat * 16 + flagBit r.valid * 8 + r.mismatches.toNat),
   Word.ofNatural (flagBit r.logAlways * 32768 + r.anchor.code * 8192 + r.shed.code * 2048 + r.ceiling.code * 64 + r.backoff.toNat)]

/-- A header in two words. -/
def Header.packed (h : Header) : List Word :=
  [Word.ofNatural (h.supply.code * 32 + h.ceiling.code), Word.ofNatural (h.shed.code * 64 + h.backoff.toNat)]

/-- A map entry in one word: kind 15..12, offset 11..0 signed (R180). -/
def MapEntry.word (e : MapEntry) : Word :=
  Word.ofNatural ((match e.kind with | none => 0 | some k => obsCode k) * 4096 + (BitVec.ofInt 12 e.offset).toNat)

end Sys2Proof.Machine
end

