-- ==== Sys2Proof/WellFormed.lean ====
section
/-! DEFINITION. The commands that a sender can form: the conditions of each row on its operands. -/

namespace Sys2Proof

open Sys2Proof.Machine

/-- A payload has 0 to 31 words (section 10.1). -/
def payloadFits (payload : List Word) : Bool := payload.length ≤ 31

/-- The operand words of a request leave room for the words before them in the payload. -/
def argsFit (before : Nat) (r : Request) : Bool := r.args.length + before ≤ 31

/-- The parameters whose writes are rows of their own (R177). -/
def ownRow (id : Nat) : Bool := id == 13 || id == 30 || id == 35 || id == 36

/-- A request payload that no code of 1..21 names (R173). -/
def unknownPayload (payload : List Word) : Bool :=
  match payload with
  | [] => true
  | w :: _ => bits w 10 6 == 0 || 21 < bits w 10 6

/-- A command is well formed when its frame can stand on a stream and is one that its row names. -/
def Instr.wellFormed : Instr → Bool
  | .slotOrder b => payloadFits b.payload
  | .telemetry (.frame b) _ => payloadFits b.payload
  | .telemetry .further _ => true
  | .upstreamTransitFrame f => payloadFits f.payload && f.kind != kindTelemetry
  | .downstreamTransitFrame f => payloadFits f.payload && f.kind != kindSlotOrder && f.kind != kindRequest
  | .requestDiscarded b =>
    payloadFits b.payload && !checkGood { kind := kindRequest, tag := b.tag, payload := b.payload, check := b.check }
  | .requestDropped _ payload => payloadFits payload
  | .identify r => argsFit 1 r
  | .modeSet r => argsFit 1 r
  | .paramWrite r => argsFit 1 r && !ownRow (r.args.getD 0 0).toNat
  | .tickCodeWrite r => argsFit 2 r
  | .boardFallbackWrite r => argsFit 2 r
  | .noticeEnableWrite r => argsFit 2 r
  | .noticeLatchWrite r => argsFit 2 r
  | .paramRead r => argsFit 1 r
  | .chainWrite r => argsFit 1 r
  | .ruleWrite r => argsFit 1 r
  | .headerWrite r => argsFit 1 r
  | .copy r => argsFit 1 r
  | .flip r => argsFit 1 r
  | .flipCancel r => argsFit 1 r
  | .tableRead r => argsFit 1 r
  | .curveOpen r => argsFit 1 r
  | .curveData r => argsFit 1 r
  | .curveRead r => argsFit 1 r
  | .mapWrite r => argsFit 1 r
  | .mapRead r => argsFit 1 r
  | .stateRead r => argsFit 1 r
  | .logRead r => argsFit 1 r
  | .logFlush r => argsFit 1 r
  | .noticeClear r => argsFit 1 r
  | .softReset r => argsFit 1 r
  | .tick _ blocks => decide blocks.Nodup
  | .slewExpiry _ => true
  | .streamQuiet => true
  | .observationStale _ => true
  | .windowRotation => true
  | .recovery _ => true
  | .parking _ => true
  | .parkRelease _ => true
  | .upstreamOutputFrame => true
  | .downstreamOutputFrame => true
  | .powerOnReset => true
  | .supplyOutOfRange => true
  | .pinResetAssert => true
  | .pinResetRelease => true
  | .refclkStop => true
  | .refclkResume => true
  | .unknownRequest _ payload => payloadFits payload && unknownPayload payload
  | .headerWordReceived _ _ => true

end Sys2Proof
end

