-- ==== Sys2Proof/Config.lean ====
section
/-! DEFINITION. The free values of the model: what the manual leaves open. Each is opaque, so that no statement can
rest on what it is. -/

namespace Sys2Proof

/-- The order in which blocks that still owe the work of a tick take it when another event needs that tick to be
whole. The manual does not order the tick work of two blocks (R151), so the order is free. The argument is the count of
that tick. (Assumption log entry 3.) -/
opaque Config.tickOrder : Nat → List TickBlock

/-- What a reader would get from a curve slot that is not VALID. The manual says that such an evaluation never arises
(R94) and gives it no value. The arguments are the slot and x. (Assumption log entry 6.) -/
opaque Config.strayCurve : Fin 16 → Int → Int

/-- What the point bit of a TABLE READ and of a STATE READ returns while no flip is pending. The manual names the bit (R120,
R179, R180) and gives it no value then, so the value is free. The argument is the tick count. (Assumption log entry 25.) -/
opaque Config.idlePoint : Nat → Bool

end Sys2Proof
end

