-- ==== Sys2Proof/Machine/Flags.lean ====
section
/-! DEFINITION. The judgements the blocks make on numbers, each a pure function: the zone of a temperature, the class of
a return loss, the charge state of a window sum, and the range and shape of a curve. -/

namespace Sys2Proof.Machine

/-! ### Zones (R43, R44) -/

/-- The rising zone Zr: the highest zone whose threshold the temperature reaches (R43). -/
def risingZone (θ warm hot critical : Int) : Zone :=
  if critical ≤ θ then .critical else if hot ≤ θ then .hot else if warm ≤ θ then .warm else .cool

/-- The fall out of WARM (R44). -/
def fallFromWarm (θ warm hyst : Int) : Zone := if θ < warm - hyst then .cool else .warm

/-- The fall out of HOT, and on through WARM (R44). -/
def fallFromHot (θ warm hot hyst : Int) : Zone := if θ < hot - hyst then fallFromWarm θ warm hyst else .hot

/-- The fall out of CRITICAL, and on through HOT and WARM (R44). -/
def fallFromCritical (θ warm hot critical hyst : Int) : Zone :=
  if θ < critical - hyst then fallFromHot θ warm hot hyst else .critical

/-- The fall from a zone (R44). -/
def fallZone (θ warm hot critical hyst : Int) : Zone → Zone
  | .cool => .cool
  | .warm => fallFromWarm θ warm hyst
  | .hot => fallFromHot θ warm hot hyst
  | .critical => fallFromCritical θ warm hot critical hyst

/-- One zone evaluation: a rise to Zr when Zr is above the zone, else the fall test (R43, R44). -/
def nextZone (θ warm hot critical hyst : Int) (z : Zone) : Zone :=
  if z.code < (risingZone θ warm hot critical).code then risingZone θ warm hot critical
  else fallZone θ warm hot critical hyst z

/-! ### Return loss (R56) -/

/-- The class of a reading. -/
inductive ReadingClass where
  | good
  | poor
  | bad
  deriving DecidableEq, Repr

/-- R56. -/
def classify (rl detune severe : Int) : ReadingClass :=
  if detune ≤ rl then .good else if severe ≤ rl then .poor else .bad

/-! ### Charge state (R82) -/

/-- One evaluation of the charge state against the window sum and the charge allowance. -/
def nextCharge (sum allowance : Int) : ChargeState → ChargeState
  | .ok => if allowance < sum then .capped else .ok
  | .capped => if sum ≤ allowance - allowance / 8 then .ok else .capped

/-! ### Curves (R92, R100) -/

/-- The domain of x0 for a kind (R92). -/
def CurveKind.domain : CurveKind → Int × Int
  | .ceiling => (-160, 600)
  | .heat => (-200, 140)
  | .current => (-200, 140)
  | .supply => (0, 4095)

/-- The range of y for a kind (R92). -/
def CurveKind.yRange : CurveKind → Int × Int
  | .ceiling => (-200, 140)
  | .heat => (0, 4095)
  | .current => (0, 4095)
  | .supply => (0, 8191)

/-- Every value lies within the kind's y range (R100, step 1). -/
def yRangeGood (k : CurveKind) (ys : List Int) : Bool := ys.all fun y => k.yRange.1 ≤ y && y ≤ k.yRange.2

/-- A neighbouring pair in the direction the kind requires: CEILING non-increasing, the others non-decreasing (R92). -/
def pairGood (k : CurveKind) (a b : Int) : Bool :=
  match k with
  | .ceiling => b ≤ a
  | _ => a ≤ b

/-- Every neighbouring pair keeps the kind's direction (R100, step 2). -/
def shapeGood (k : CurveKind) : List Int → Bool
  | a :: b :: rest => pairGood k a b && shapeGood k (b :: rest)
  | _ => true

/-- What a loading slot becomes when its 17th value has arrived (R100). -/
def closeCurve (d : CurveData) : CurveSlot :=
  if yRangeGood d.kind d.ys = false then .invalid .range d
  else if shapeGood d.kind d.ys = false then .invalid .shape d
  else .valid d

/-! ### Masks (00_scope.md section 3.4) -/

/-- Whether member k is selected by a mask. -/
def inMask {n : Nat} (mask : BitVec n) (k : Nat) : Bool := mask.getLsbD k

/-- Whether an anchor match accepts an anchor flag (section 6.1). -/
def anchorAccepts : AnchorMatch → Bool → Bool
  | .any, _ => true
  | .anchor, a => a
  | .nonAnchor, a => !a

/-- Whether an entry may not be shed: the resolution of a shed policy by the anchor flag (R10, section 6.1). -/
def resolveForbid : ShedPolicy → Bool → Bool
  | .default, anchor => anchor
  | .allow, _ => false
  | .forbid, _ => true

end Sys2Proof.Machine
end

