-- ==== Sys2Proof/Machine/Ops.lean ====
section
/-! DEFINITION. The named operations over the state that several commands share: parameters, notices, the log, the queues,
curves and references, temperatures and zones, mismatch records, the charge window, and the application of a flip. -/

namespace Sys2Proof.Machine

/-! ### Replacing one block -/

def State.withRh (s : State) (x : RequestHandler) : State := { s with rh := x }
def State.withGe (s : State) (x : GrantEngine) : State := { s with ge := x }
def State.withTe (s : State) (x : ThermalEstimator) : State := { s with te := x }
def State.withMs (s : State) (x : Vector ChainRecord 4) : State := { s with ms := x }
def State.withSa (s : State) (x : SupplyAllocator) : State := { s with sa := x }
def State.withCs (s : State) (x : CurveStore) : State := { s with cs := x }
def State.withCb (s : State) (x : ConfigBanks) : State := { s with cb := x }
def State.withTi (s : State) (x : TelemetryIntake) : State := { s with ti := x }
def State.withTg (s : State) (x : TickGenerator) : State := { s with tg := x }
def State.withOl (s : State) (x : ObservationLog) : State := { s with ol := x }
def State.withNu (s : State) (x : NoticeUnit) : State := { s with nu := x }
def State.withLi (s : State) (x : LinkInterface) : State := { s with li := x }
def State.withPins (s : State) (x : Pins) : State := { s with pins := x }
def State.withInHand (s : State) (x : InHand) : State := { s with inHand := x }
def State.withPending (s : State) (x : List Instr) : State := { s with pending := x }

/-! ### Reading and storing single items -/

/-- A parameter's stored value. -/
def State.param (s : State) (p : ParamId) : Int := s.rh.params.get p.index

/-- A parameter that its range keeps non-negative. -/
def State.paramNat (s : State) (p : ParamId) : Nat := (s.param p).toNat

/-- Store a parameter's value. -/
def State.setParam (s : State) (p : ParamId) (v : Int) : State :=
  s.withRh { s.rh with params := s.rh.params.set p.index.val v p.index.isLt }

/-- An observation of the table (R135). -/
def State.obsOf (s : State) (k : ObsKind) : Observation := s.ti.obs.get (obsIndex k)

/-- An observation is fresh while its fresh count is above 0 (R135). -/
def State.isFresh (s : State) (k : ObsKind) : Bool := 0 < (s.obsOf k).fresh

/-- Store an observation. -/
def State.setObs (s : State) (k : ObsKind) (o : Observation) : State :=
  s.withTi { s.ti with obs := s.ti.obs.set (obsIndex k).val o (obsIndex k).isLt }

/-- A module's record. -/
def ThermalEstimator.get (t : ThermalEstimator) : Module → ModuleRecord
  | .a => t.a
  | .b => t.b

/-- Store a module's record. -/
def ThermalEstimator.set (t : ThermalEstimator) (m : Module) (r : ModuleRecord) : ThermalEstimator :=
  match m with
  | .a => { t with a := r }
  | .b => { t with b := r }

/-- Store a chain's mismatch record. -/
def State.setChain (s : State) (c : Chain) (r : ChainRecord) : State := s.withMs (s.ms.set c.val r c.isLt)

/-- Store a chain's slew memory. -/
def State.setSlew (s : State) (c : Chain) (m : SlewMemory) : State :=
  s.withGe { s.ge with slew := s.ge.slew.set c.val m c.isLt }

/-- The low 16 bits of the tick counter, as records carry it (R149). -/
def State.stamp (s : State) : Nat := s.tg.counter % 65536

/-- A reset holds: a supply is out of range, or RESETN is low (R182). -/
def State.held (s : State) : Bool := s.pins.supplyOut || s.pins.resetLow

/-! ### The insert queue and the Notice Unit (R161, R162, R169) -/

/-- Place a frame as the newest of the insert queue. -/
def State.queueGov (s : State) (f : GovFrame) : State := s.withLi { s.li with insert := s.li.insert ++ [f] }

/-- A NOTICE or a GRANT NOTE is placed only when the queue holds 0 to 2 frames (R169). -/
def State.notePlace (s : State) : Bool := s.li.insert.length ≤ 2

/-- A NOTICE waits in the insert queue. -/
def State.noticeWaits (s : State) : Bool := s.li.insert.any GovFrame.isNotice

/-- Add classes to the class set of a waiting NOTICE. -/
def mergeInto (d : ClassSet) : GovFrame → GovFrame
  | .notice c => .notice (c ||| d)
  | f => f

/-- Merge classes into the NOTICE that waits. -/
def State.mergeNotice (s : State) (d : ClassSet) : State := s.withLi { s.li with insert := s.li.insert.map (mergeInto d) }

/-- The enable set (section 9.6). -/
def State.enableSet (s : State) : ClassSet := BitVec.ofInt 10 (s.param .noticeEnable)

/-- The latch mode is LATCHED. -/
def State.latched (s : State) : Bool := s.param .noticeLatch == 1

/-- The classes both pending and enabled. -/
def State.deliverable (s : State) : ClassSet := s.nu.pending &&& s.enableSet

/-- The test of R161 in NON_LATCHED mode: deliver the pending enabled classes by merging or queuing, and remove them. -/
def State.noticeTest (s : State) : State :=
  if s.deliverable = 0 then s
  else if s.noticeWaits then
    (s.mergeNotice s.deliverable).withNu { s.nu with pending := s.nu.pending &&& ~~~ s.deliverable }
  else if s.notePlace then
    (s.queueGov (.notice s.deliverable)).withNu { s.nu with pending := s.nu.pending &&& ~~~ s.deliverable }
  else s

/-- A call for a NOTICE in LATCHED mode (R162): merge, queue, or owe. -/
def State.noticeCall (s : State) : State :=
  if s.noticeWaits then s.mergeNotice s.deliverable
  else if s.notePlace then s.queueGov (.notice s.deliverable)
  else s.withNu { s.nu with owed := true }

/-- Raise a notice class: one event at NU (R161, R162). -/
def State.raise (c : NoticeClass) (s : State) : State :=
  if s.latched then
    if s.nu.pending &&& c.bit ≠ 0 then s
    else if s.enableSet &&& c.bit ≠ 0 then (s.withNu { s.nu with pending := s.nu.pending ||| c.bit }).noticeCall
    else s.withNu { s.nu with pending := s.nu.pending ||| c.bit }
  else (s.withNu { s.nu with pending := s.nu.pending ||| c.bit }).noticeTest

/-- What NU does when a frame leaves the insert queue: the test of R161, or the retry of an owed NOTICE (R162). -/
def State.noticeDeparture (s : State) : State :=
  if s.latched then
    if s.nu.owed = false then s
    else if s.noticeWaits then (s.mergeNotice s.deliverable).withNu { s.nu with owed := false }
    else if s.notePlace then
      if s.deliverable = 0 then s.withNu { s.nu with owed := false }
      else (s.queueGov (.notice s.deliverable)).withNu { s.nu with owed := false }
    else s
  else s.noticeTest

/-! ### The Observation Log (R155 to R157) -/

/-- What an append does to the log alone: the log after it, and the number of records it lost (R155). -/
structure AppendResult where
  log : ObservationLog
  lostNow : Nat
  deriving DecidableEq, Repr

/-- Remove the oldest records until L more words fit (R155, OVERWRITE): the records kept and how many were removed. -/
def dropOldest (len : Nat) : List Record → List Record × Nat
  | [] => ([], 0)
  | r :: rs =>
    if recordsLength (r :: rs) + len ≤ 512 then (r :: rs, 0)
    else ((dropOldest len rs).1, (dropOldest len rs).2 + 1)

/-- The lost count and the first-loss stamp after n more losses (R155): the count saturates at 65,535, and the stamp is
set when the count leaves 0. -/
def ObservationLog.loseRecords (o : ObservationLog) (n stamp : Nat) : ObservationLog :=
  if n = 0 then o
  else { o with lost := min 65535 (o.lost + n), firstLoss := if o.lost = 0 then stamp else o.firstLoss }

/-- Append a record under a mode (R155). -/
def ObservationLog.append (o : ObservationLog) (overwrite : Bool) (stamp : Nat) (r : Record) : AppendResult :=
  if o.fill + r.length ≤ 512 then { log := { o with store := o.store ++ [r], fill := o.fill + r.length }, lostNow := 0 }
  else if overwrite = false then { log := o.loseRecords 1 stamp, lostNow := 1 }
  else
    { log := { o.loseRecords (dropOldest r.length o.store).2 stamp with
        store := (dropOldest r.length o.store).1 ++ [r]
        fill := recordsLength (dropOldest r.length o.store).1 + r.length }
      lostNow := (dropOldest r.length o.store).2 }

/-- Hand a record to OL: it is appended under the log mode, a first loss raises LOSS (R155), and a crossing of the
watermark raises WATERMARK (R156). -/
def State.record (r : Record) (s : State) : State :=
  let res := s.ol.append (s.param .logMode == 1) s.stamp r
  let s1 := s.withOl res.log
  let s2 := if s.ol.lost = 0 ∧ res.lostNow ≠ 0 then s1.raise .loss else s1
  if (s.ol.fill : Int) < s.param .watermark ∧ s.param .watermark ≤ (res.log.fill : Int) then s2.raise .watermark else s2

/-- A LINK record and the LINK class (R166). -/
def State.linkFault (e : LinkError) (s : State) : State := (s.record (.link e s.stamp)).raise .link

/-- Offer a GRANT record (R157, R22): kept when the counter is a multiple of 2^n or the record is forced. -/
def State.offerGrant (r : Record) (forced : Bool) (s : State) : State :=
  let s1 := s.withOl { s.ol with grantCounter := (s.ol.grantCounter + 1) % 128 }
  if forced = true ∨ s.ol.grantCounter % 2 ^ s.paramNat .grantDownsample = 0 then s1.record r else s1

/-- Offer a READING record (R157): nothing while reading log is OFF, else kept on every 2^n-th offer of its kind. -/
def State.offerReading (k : ObsKind) (v : Int) (s : State) : State :=
  if s.param .readingLog = 8 then s
  else
    let n := s.ol.readingCounters.get (obsIndex k)
    let s1 := s.withOl { s.ol with
      readingCounters := s.ol.readingCounters.set (obsIndex k).val ((n + 1) % 128) (obsIndex k).isLt }
    if n % 2 ^ s.paramNat .readingLog = 0 then s1.record (.reading k v s.stamp) else s1

/-! ### Curves and references (R93, R102, R103) -/

/-- Point i of a curve. A VALID curve holds all seventeen (R101). -/
def CurveData.y (d : CurveData) (i : Nat) : Int := d.ys.getD i 0

/-- The evaluation of a curve at x (R93): the end values outside the grid, floor interpolation inside it. -/
def CurveData.eval (d : CurveData) (x : Int) : Int :=
  let u := x - d.x0
  let step : Int := 2 ^ d.shift
  if u ≤ 0 then d.y 0
  else if 16 * step ≤ u then d.y 16
  else
    let i := (u / step).toNat
    d.y i + (d.y (i + 1) - d.y i) * (u - i * step) / step

/-- The evaluation of a slot: a VALID slot's curve; a slot in another state is never evaluated (R94), and its value is
free. -/
def CurveStore.eval (c : CurveStore) (n : Fin 16) (x : Int) : Int :=
  match c.slots.get n with
  | .valid d => d.eval x
  | _ => Config.strayCurve n x

/-- The heat or current a descriptor's reference gives: 0 for NONE (R18, R25, R26). -/
def State.evalRef (s : State) (r : CurveRef) (x : Int) : Int :=
  match r with
  | .none => 0
  | .slot n => s.cs.eval n x

/-- A bank by its id. -/
def ConfigBanks.bank (c : ConfigBanks) (id : Fin 2) : Bank := if id = 0 then c.bank0 else c.bank1

/-- The bank that governs (R109). -/
def ConfigBanks.activeBank (c : ConfigBanks) : Bank := c.bank c.active

/-- The id of the other bank. -/
def ConfigBanks.standbyId (c : ConfigBanks) : Fin 2 := if c.active = 0 then 1 else 0

/-- The bank that writes reach (R109). -/
def ConfigBanks.standbyBank (c : ConfigBanks) : Bank := c.bank c.standbyId

/-- Replace the standby bank. -/
def ConfigBanks.setStandby (c : ConfigBanks) (b : Bank) : ConfigBanks :=
  if c.active = 0 then { c with bank1 := b } else { c with bank0 := b }

/-- The descriptor of a chain in a bank. -/
def Bank.descriptor (b : Bank) (c : Chain) : Descriptor := b.chains.get c

/-- A bank holds at least one present descriptor. -/
def Bank.hasPresent (b : Bank) : Bool := b.chains.toList.any Descriptor.present

/-- The point bit that reads return (R179, R180): the point of the pending flip; with none pending the manual gives it no
value, and it is free (assumption log entry 25). -/
def State.pointBit (s : State) : Bool :=
  match s.cb.flip with
  | none => Config.idlePoint s.tg.counter
  | some p => p == .quiet

/-- The places of a curve reference that is in force (R102), coded as a FLIP's response reports them (R180). -/
structure RefInForce where
  /-- 0 HEADER, 1 DESCRIPTOR, 2 RULE. -/
  place : Nat
  /-- The index of the descriptor or rule; 0 for the header. -/
  index : Nat
  /-- The field, numbered as its field-select bit. -/
  field : Nat
  slot : Fin 16
  /-- The kind required. -/
  kind : CurveKind
  deriving DecidableEq, Repr

/-- The reference a descriptor's field or the header's supply field holds, if it names a slot. -/
def CurveRef.inForce (r : CurveRef) (place index field : Nat) (k : CurveKind) : List RefInForce :=
  match r with
  | .none => []
  | .slot n => [{ place := place, index := index, field := field, slot := n, kind := k }]

/-- The reference a rule's or the default action's ceiling holds, if it names a slot. -/
def CeilingRef.inForce (r : CeilingRef) (place index field : Nat) : List RefInForce :=
  match r with
  | .default => []
  | .slot n => [{ place := place, index := index, field := field, slot := n, kind := .ceiling }]

/-- The references in force of a descriptor (R102). -/
def Descriptor.refs (d : Descriptor) (index : Nat) : List RefInForce :=
  if d.present then
    d.ceiling.inForce 1 index 6 .ceiling ++ d.heat.inForce 1 index 7 .heat ++ d.current.inForce 1 index 8 .current
  else []

/-- The reference in force of a rule (R102). -/
def Rule.refs (r : Rule) (index : Nat) : List RefInForce := if r.valid then r.ceiling.inForce 2 index 7 else []

/-- The references in force of a list of descriptors or rules, numbered from an index on. -/
def refsFrom {α : Type} (refs : α → Nat → List RefInForce) : Nat → List α → List RefInForce
  | _, [] => []
  | i, x :: xs => refs x i ++ refsFrom refs (i + 1) xs

/-- The references in force of a bank, in the order in which a FLIP examines them (R121). -/
def Bank.refs (b : Bank) : List RefInForce :=
  b.header.supply.inForce 0 0 0 .supply ++ b.header.ceiling.inForce 0 0 1
    ++ refsFrom Descriptor.refs 0 b.chains.toList ++ refsFrom Rule.refs 0 b.rules.toList

/-- A slot is pinned while the active bank, or the standby bank while a flip is pending, names it in force (R103). -/
def State.pinned (s : State) (n : Fin 16) : Bool :=
  s.cb.activeBank.refs.any (fun r => r.slot == n)
    || (s.cb.flip.isSome && s.cb.standbyBank.refs.any (fun r => r.slot == n))

/-- The slot a reference names is VALID and of the kind required (R104, R121). -/
def CurveStore.satisfies (c : CurveStore) (r : RefInForce) : Bool :=
  match c.slots.get r.slot with
  | .valid d => d.kind == r.kind
  | _ => false

/-! ### Temperatures and zones (chapter 2) -/

/-- The board reference θ_ref (R32). -/
def State.boardRef (s : State) : Int := if s.isFresh .board then (s.obsOf .board).value else s.param .boardFallback

/-- The estimated temperature θ_est of a module (R31). -/
def State.thetaEst (s : State) (m : Module) : Int := s.boardRef + (s.te.get m).rise

/-- One zone evaluation of a module (R43 to R46): a change writes a ZONE record and raises ZONE. -/
def State.evalZone (m : Module) (s : State) : State :=
  let old := (s.te.get m).zone
  let new := nextZone (s.thetaEst m) (s.param .warm) (s.param .hot) (s.param .critical) (s.param .zoneHysteresis) old
  if new = old then s
  else
    ((s.withTe (s.te.set m { s.te.get m with zone := new })).record (.zone m old new (s.thetaEst m) s.stamp)).raise .zone

/-- The evaluation of both zones, module A first (R33, R36). -/
def State.evalZones (s : State) : State := (s.evalZone .a).evalZone .b

/-- A module's effective heat from its own accumulator and its neighbour's (R35). -/
def effectiveHeat (own other κ : Nat) : Nat := min 1048575 (own + other * κ / 256)

/-- The new rise of a tick update (R36). -/
def cooledRise (rise effHeat α β : Nat) : Nat := min 1023 (rise - rise * α / 256 + effHeat * β / 65536)

/-- The tick update (R35, R36). -/
def State.thermalTick (s : State) : State :=
  let ra := cooledRise s.te.a.rise (effectiveHeat s.te.a.heat s.te.b.heat (s.paramNat .kappa)) (s.paramNat .alpha) (s.paramNat .beta)
  let rb := cooledRise s.te.b.rise (effectiveHeat s.te.b.heat s.te.a.heat (s.paramNat .kappa)) (s.paramNat .alpha) (s.paramNat .beta)
  (s.withTe { a := { s.te.a with rise := ra, heat := 0 }, b := { s.te.b with rise := rb, heat := 0 } }).evalZones

/-- The corrected rise (R39): the one division of the governor that truncates. -/
def correctedRise (rise : Nat) (measured ref gain : Int) : Nat :=
  (clamp 0 1023 ((rise : Int) + ((measured - ref - rise) * gain).tdiv 256)).toNat

/-- A die temperature delivered to TE corrects its module, whose zone is then evaluated (R39). -/
def State.dieCorrection (m : Module) (measured : Int) (s : State) : State :=
  (s.withTe (s.te.set m { s.te.get m with
    rise := correctedRise (s.te.get m).rise measured s.boardRef (s.param .gamma) })).evalZone m

/-- Heat added to a module's accumulator, which saturates (R34). -/
def State.addHeat (m : Module) (amount : Nat) (s : State) : State :=
  s.withTe (s.te.set m { s.te.get m with heat := min 1048575 ((s.te.get m).heat + amount) })

/-! ### Mismatch records (chapter 3) -/

/-- The record of a chain after a change of its state (R65). -/
def ChainRecord.changed (r : ChainRecord) (new : MismatchState) (parkTicks : Nat) : ChainRecord :=
  { r with state := new, confirm := 0, improving := false, recovery := 0, severe := 0
           park := if new = .parked then parkTicks else 0
           probe := r.state == .parked }

/-- A change of a chain's state: the record, the MISMATCH record and the MISMATCH class (R65). -/
def State.changeMismatch (c : Chain) (new : MismatchState) (s : State) : State :=
  let r := s.ms.get c
  ((s.setChain c (r.changed new (s.paramNat .parkTicks))).record (.mismatch c r.state new r.lastRL s.stamp)).raise .mismatch

/-- The reset of a chain that is absent from a new active bank (R67). -/
def State.flipResetChain (c : Chain) (s : State) : State :=
  let r := s.ms.get c
  if r.state = .matched then s.setChain c ChainRecord.reset
  else ((s.setChain c ChainRecord.reset).record (.mismatch c r.state .matched r.lastRL s.stamp)).raise .mismatch

/-! ### The charge window (chapter 4) -/

/-- The most a bucket holds (R76). -/
def bucketMax : Nat := 16777215

/-- One evaluation of the charge state; a change writes a CHARGE record and raises CHARGE (R82, R84). -/
def State.evalCharge (s : State) : State :=
  let new := nextCharge s.sa.windowSum (s.param .chargeAllowance) s.sa.charge
  if new = s.sa.charge then s
  else ((s.withSa { s.sa with charge := new }).record (.charge s.sa.charge new s.sa.windowSum s.stamp)).raise .charge

/-- The part of an addition that fits in the open bucket (R77). -/
def SupplyAllocator.added (a : SupplyAllocator) (amount : Nat) : Nat := min amount (bucketMax - a.buckets.get 15)

/-- An order's charge added to the open bucket, then an evaluation (R77). -/
def State.addCharge (amount : Nat) (s : State) : State :=
  (s.withSa { s.sa with
    buckets := s.sa.buckets.set 15 (s.sa.buckets.get 15 + s.sa.added amount)
    windowSum := s.sa.windowSum + s.sa.added amount }).evalCharge

/-- The buckets after a rotation: each one position nearer the oldest end, and an empty open bucket (R79). -/
def rotateBuckets (b : Vector Nat 16) : Vector Nat 16 :=
  #v[b.get 1, b.get 2, b.get 3, b.get 4, b.get 5, b.get 6, b.get 7, b.get 8, b.get 9, b.get 10, b.get 11, b.get 12,
     b.get 13, b.get 14, b.get 15, 0]

/-- A rotation of the window, the reload of its counter and an evaluation (R78, R79). -/
def State.rotate (s : State) : State :=
  (s.withSa { s.sa with
    buckets := rotateBuckets s.sa.buckets
    windowSum := s.sa.windowSum - s.sa.buckets.get 0
    counter := s.paramNat .windowTicks }).evalCharge

/-- The base allowance comes from the supply curve: the header names one and BATT_V is fresh (R73). -/
def State.supplyFromCurve (s : State) : Bool :=
  match s.cb.activeBank.header.supply with
  | .none => false
  | .slot _ => s.isFresh .battV

/-- The base allowance (R73). -/
def State.baseAllowance (s : State) : Int :=
  match s.cb.activeBank.header.supply with
  | .none => s.param .supplyFallback
  | .slot n => if s.isFresh .battV then s.cs.eval n (s.obsOf .battV).value else s.param .supplyFallback

/-- The current allowance A (R73). -/
def State.allowance (s : State) : Int :=
  match s.sa.charge with
  | .ok => s.baseAllowance
  | .capped => min s.baseAllowance (s.param .sustainedCurrent)

/-! ### Slew memory and the flip -/

/-- A slew memory cleared, its last grant left as it stood (R16). -/
def SlewMemory.clear (m : SlewMemory) : SlewMemory := { m with valid := false, age := 0 }

/-- The slew memories of all four chains cleared (R4, R126). -/
def clearSlew (v : Vector SlewMemory 4) : Vector SlewMemory 4 :=
  #v[(v.get 0).clear, (v.get 1).clear, (v.get 2).clear, (v.get 3).clear]

/-- The flip reset of a chain, made when the chain has no present descriptor in the active bank (R67). -/
def State.flipResetAbsent (c : Chain) (s : State) : State :=
  if (s.cb.activeBank.descriptor c).present then s else s.flipResetChain c

/-- The application of a flip, one event in the order of R126: banks exchanged, slew memory cleared, absent chains
reset in chain order, the pending flip ended, FLIP record, FLIP class. -/
def State.applyFlip (point : FlipPoint) (s : State) : State :=
  let s1 := s.withCb { s.cb with active := s.cb.standbyId }
  let s2 := s1.withGe { s1.ge with slew := clearSlew s1.ge.slew }
  let s3 := (((s2.flipResetAbsent 0).flipResetAbsent 1).flipResetAbsent 2).flipResetAbsent 3
  let s4 := s3.withCb { s3.cb with flip := none }
  (s4.record (.flip s4.cb.active point s4.stamp)).raise .flip

end Sys2Proof.Machine
end

