-- ==== Sys2Proof/Machine/Intake.lean ====
section
/-! DEFINITION. The Telemetry Intake (chapter 7) and what it delivers: the handling of a reading, the evaluation of a
reflected power at the Mismatch Supervisor (chapter 3), and the transit buffer that a telemetry frame goes to. -/

namespace Sys2Proof.Machine

/-! ### The evaluation of a reading at MS (R55 to R59) -/

/-- The threshold that an improving reading of a state must reach, less the hysteresis (R59). -/
def State.improvingBase (s : State) : MismatchState → Int
  | .severe => s.param .severeThreshold
  | _ => s.param .detuneThreshold

/-- The improving flag and recovery count after an evaluated reading in DETUNED or SEVERE (R59). -/
def ChainRecord.improve (r : ChainRecord) (improving : Bool) : ChainRecord :=
  if improving then (if r.improving then r else { r with improving := true, recovery := 0 })
  else { r with improving := false }

/-- A worsening count of one more (R57, R58): the state moves to `new` when the count reaches confirm. -/
def State.worsen (c : Chain) (new : MismatchState) (s : State) : State :=
  let r := s.ms.get c
  if s.param .confirm ≤ (r.confirm : Int) + 1 then s.changeMismatch c new else s.setChain c { r with confirm := r.confirm + 1 }

/-- An evaluated reading of return loss RL (R56): the probe flag is cleared, RL is stored, and the worsening and
improving rules of the state are applied. -/
def State.evaluateReading (c : Chain) (rl : Int) (s : State) : State :=
  let cls := classify rl (s.param .detuneThreshold) (s.param .severeThreshold)
  let r := { s.ms.get c with probe := false, lastRL := rl }
  let improving := decide (s.improvingBase r.state + s.param .hysteresis ≤ rl)
  match r.state with
  | .matched =>
    match cls with
    | .good => s.setChain c { r with confirm := 0 }
    | .poor => (s.setChain c r).worsen c .detuned
    | .bad => (s.setChain c r).worsen c .severe
  | .detuned =>
    match cls with
    | .bad => (s.setChain c (r.improve improving)).worsen c .severe
    | _ => s.setChain c { r.improve improving with confirm := 0 }
  | .severe => s.setChain c { r.improve improving with confirm := 0 }
  | .parked => s

/-- The conditions under which a delivered REFL reading is evaluated (R55). -/
def State.reflCounts (s : State) (c : Chain) : Bool :=
  (s.ms.get c).state ≠ .parked && s.isFresh (.fwd c) && s.param .forwardFloor ≤ (s.obsOf (.fwd c)).value

/-- A REFL reading delivered to MS (R55): the return loss is taken against the FWD observation as it stands. -/
def State.reflDelivered (c : Chain) (refl : Int) (s : State) : State :=
  if s.reflCounts c then s.evaluateReading c ((s.obsOf (.fwd c)).value - refl) else s

/-! ### One reading (R136 to R139) -/

/-- The delivery of an accepted reading to its consumer (R139). -/
def State.deliverReading (k : ObsKind) (v : Int) (s : State) : State :=
  match k with
  | .dieA => s.dieCorrection .a v
  | .dieB => s.dieCorrection .b v
  | .board => s.evalZones
  | .fwd _ => s
  | .refl c => s.reflDelivered c v
  | .battV => s

/-- An accepted reading (R137, R138): stored, refreshed, its records handed over, then delivered. -/
def State.acceptReading (k : ObsKind) (v : Int) (s : State) : State :=
  let s1 := s.setObs k { value := v, fresh := s.paramNat .staleTicks, saturated := false }
  let s2 := if s.isFresh k then s1 else (s1.record (.stale false k s.stamp)).raise .stale
  (s2.offerReading k v).deliverReading k v

/-- A raw value at a rail of the transceiver's converter (R136). -/
def railCode (raw : Int) : Bool := raw == -2048 || raw == 2047

/-- One reading word handled to the end (R136, R137). -/
def State.handleReading (w : Word) (s : State) : State :=
  let e := s.ti.map.get (readingChannel w)
  match e.kind with
  | none => s
  | some k =>
    if railCode (readingRaw w) then s.setObs k { s.obsOf k with saturated := true }
    else s.acceptReading k (obsClamp k (readingRaw w + e.offset))

/-- Reading words handled in word order (R131). -/
def State.handleReadings : List Word → State → State
  | [], s => s
  | w :: ws, s => State.handleReadings ws (s.handleReading w)

/-! ### The transit buffer (R168) -/

/-- An upstream frame offered to the transit buffer: appended when fewer than 2 wait, else dropped with LINK OVERRUN. -/
def State.offerTransit (f : Frame) (s : State) : State :=
  if s.li.transit.length < 2 then s.withLi { s.li with transit := s.li.transit ++ [f] } else s.linkFault .overrun

/-! ### A frame between two of its deliveries (R131) -/

/-- The remaining words of a frame handled, then the frame offered to the transit buffer (R168). -/
def State.endIntake (i : Intake) (s : State) : State := (State.handleReadings i.rest s).offerTransit i.frame

/-- The next n words of a frame handled: with the last of them the frame is ended, else it stays in hand (R131). -/
def State.handleNext (i : Intake) (n : Nat) (s : State) : State :=
  if i.rest.length ≤ n then s.endIntake i
  else
    (State.handleReadings (i.rest.take n) s).withInHand { s.inHand with intake := some { i with rest := i.rest.drop n } }

/-- No frame in hand. -/
def State.clearIntake (s : State) : State := s.withInHand { s.inHand with intake := none }

/-- End a telemetry frame in hand, if there is one. -/
def State.settleIntake (s : State) : State :=
  match s.inHand.intake with
  | none => s
  | some i => s.clearIntake.endIntake i

/-- Go on with a telemetry frame in hand, if there is one, by n words (R131). -/
def State.observeFurther (n : Nat) (s : State) : State :=
  match s.inHand.intake with
  | none => s
  | some i => s.clearIntake.handleNext i n

/-- A TELEMETRY frame with a good check (R130): its first `now` words are handled. -/
def State.observe (f : Frame) (now : Nat) (s : State) : State := s.handleNext { frame := f, rest := f.payload } now

/-- A TELEMETRY frame received whole at the transceiver-side port (R168). An earlier frame is ended first. -/
def State.takeTelemetry (f : Frame) (now : Nat) (s : State) : State :=
  if checkGood f then s.settleIntake.observe f now else (s.settleIntake.linkFault .check).offerTransit f

/-- An upstream frame of any other kind received whole (R168). -/
def State.takeUpstream (f : Frame) (s : State) : State := s.settleIntake.offerTransit f

end Sys2Proof.Machine
end

