-- ==== Sys2Proof/Machine/Ticks.lean ====
section
/-! DEFINITION. The governor tick (chapter 8): its production and numbering, the work each block takes at it (R16, R28,
R36, R60 to R62, R78, R140), and the rows that name what a block's tick work brings about. -/

namespace Sys2Proof.Machine

/-! ### The tick work of each block (R151) -/

/-- TI: the fresh count of one kind decremented; a count that goes from 1 to 0 writes a STALE record and raises STALE
(R140). -/
def State.ageKind (k : ObsKind) (s : State) : State :=
  let o := s.obsOf k
  if o.fresh = 0 then s
  else
    let s1 := s.setObs k { o with fresh := o.fresh - 1 }
    if o.fresh = 1 then (s1.record (.stale true k s.stamp)).raise .stale else s1

/-- TI: the kinds of a list aged in turn. -/
def State.ageKinds : List ObsKind → State → State
  | [], s => s
  | k :: ks, s => State.ageKinds ks (s.ageKind k)

/-- TI's tick work (R140): every kind in code order, then a BOARD that went stale reported to TE as a change of θ_ref
(R33). That the report comes after all the STALE records is the model's reading (assumption log entry 9, DEDUCED). A frame in
hand is ended first (R131). -/
def State.tickTi (s : State) : State :=
  let s0 := s.settleIntake
  let s1 := State.ageKinds obsAll s0
  if (s0.obsOf .board).fresh = 1 then s1.evalZones else s1

/-- The recovery of a chain completes at its next tick (R60). -/
def State.recoveryDue (s : State) (c : Chain) : Bool :=
  ((s.ms.get c).state == .detuned || (s.ms.get c).state == .severe) && (s.ms.get c).improving
    && s.param .recoverTicks ≤ ((s.ms.get c).recovery : Int) + 1

/-- A chain parks at its next tick (R61): the recovery is tested first. -/
def State.parkingDue (s : State) (c : Chain) : Bool :=
  (s.ms.get c).state == .severe && !s.recoveryDue c && s.param .severeLimit ≤ ((s.ms.get c).severe : Int) + 1

/-- A parked chain is released at its next tick (R62). -/
def State.releaseDue (s : State) (c : Chain) : Bool := (s.ms.get c).state == .parked && (s.ms.get c).park ≤ 1

/-- The state one step better (section 3.1). -/
def MismatchState.better : MismatchState → MismatchState
  | .severe => .detuned
  | _ => .matched

/-- MS: the tick work of one chain (R60 to R62). -/
def State.tickChain (c : Chain) (s : State) : State :=
  let r := s.ms.get c
  let recovery := if r.improving then r.recovery + 1 else r.recovery
  match r.state with
  | .matched => s
  | .detuned => if s.recoveryDue c then s.changeMismatch c r.state.better else s.setChain c { r with recovery := recovery }
  | .severe =>
    if s.recoveryDue c then s.changeMismatch c r.state.better
    else if s.parkingDue c then s.changeMismatch c .parked
    else s.setChain c { r with recovery := recovery, severe := r.severe + 1 }
  | .parked => if s.releaseDue c then s.changeMismatch c .detuned else s.setChain c { r with park := r.park - 1 }

/-- MS's tick work: the four chains in chain order (section 3.4). -/
def State.tickMs (s : State) : State := (((s.tickChain 0).tickChain 1).tickChain 2).tickChain 3

/-- SA's tick work: the window counter, and at 0 a rotation (R78). -/
def State.tickSa (s : State) : State :=
  if s.sa.counter ≤ 1 then s.rotate else s.withSa { s.sa with counter := s.sa.counter - 1 }

/-- A slew memory at a tick (R16): the age of a valid memory rises, and at the expiry value the memory becomes not
valid. -/
def SlewMemory.aged (m : SlewMemory) (expiry : Int) : SlewMemory :=
  if m.valid then { m with age := m.age + 1, valid := decide (((m.age + 1 : Nat) : Int) < expiry) } else m

/-- The slew memories of all four chains at a tick. -/
def ageSlews (v : Vector SlewMemory 4) (expiry : Int) : Vector SlewMemory 4 :=
  #v[(v.get 0).aged expiry, (v.get 1).aged expiry, (v.get 2).aged expiry, (v.get 3).aged expiry]

/-- The stream becomes QUIET at GE's next tick work (R28). A tick produced before the last slot order does not count, even
where GE takes its work after that order (R152). -/
def State.quietDue (s : State) : Bool :=
  s.ge.stream == .live && !s.inHand.tick.ordered && s.param .quietTicks ≤ ((s.ge.quietCount + 1 : Nat) : Int)

/-- GE's tick work (R16, R28, R152): slew ages, quiet count, and at the change to QUIET the application of a pending QUIET
flip (R125). -/
def State.tickGe (s : State) : State :=
  let s0 := s.withInHand { s.inHand with tick := { s.inHand.tick with ordered := false } }
  let s1 := s0.withGe { s.ge with slew := ageSlews s.ge.slew (s.param .slewExpiry) }
  match s.ge.stream, s.inHand.tick.ordered with
  | .quiet, _ => s1
  | .live, true => s1
  | .live, false =>
    if s.quietDue then
      let s2 := s1.withGe { s1.ge with quietCount := s1.ge.quietCount + 1, stream := .quiet }
      if s2.cb.flip = some .quiet then s2.applyFlip .quiet else s2
    else s1.withGe { s1.ge with quietCount := s1.ge.quietCount + 1 }

/-! ### Owed tick work -/

/-- Whether a block has yet to take its work of the last tick. -/
def TickOwed.get (o : TickOwed) : TickBlock → Bool
  | .te => o.te
  | .ti => o.ti
  | .ms => o.ms
  | .sa => o.sa
  | .ge => o.ge

/-- A block has taken its work. -/
def TickOwed.taken (o : TickOwed) : TickBlock → TickOwed
  | .te => { o with te := false }
  | .ti => { o with ti := false }
  | .ms => { o with ms := false }
  | .sa => { o with sa := false }
  | .ge => { o with ge := false }

/-- Every block has yet to take its work. -/
def TickOwed.all : TickOwed := { te := true, ti := true, ms := true, sa := true, ge := true, ordered := false }

/-- Some block has yet to take its work. -/
def TickOwed.any (o : TickOwed) : Bool := o.te || o.ti || o.ms || o.sa || o.ge

/-- The blocks with tick work of their own. -/
def allBlocks : List TickBlock := [.te, .ti, .ms, .sa, .ge]

/-- A block's tick work (R151). -/
def State.blockWork (b : TickBlock) (s : State) : State :=
  match b with
  | .te => s.thermalTick
  | .ti => s.tickTi
  | .ms => s.tickMs
  | .sa => s.tickSa
  | .ge => s.tickGe

/-- A block takes its work of the last tick, once. While the reference clock is absent all tick-counted state holds where
it stands (R146). -/
def State.takeWork (b : TickBlock) (s : State) : State :=
  if s.inHand.tick.get b && !s.pins.refclkAbsent then (s.withInHand { s.inHand with tick := s.inHand.tick.taken b }).blockWork b else s

/-- Blocks take their work in turn. -/
def State.takeWorks : List TickBlock → State → State
  | [], s => s
  | b :: bs, s => State.takeWorks bs (s.takeWork b)

/-- End a tick in hand: the blocks that still owe its work take it, in an order that is free (R151). -/
def State.settleTick (s : State) : State :=
  if s.inHand.tick.any then State.takeWorks (Config.tickOrder s.tg.counter ++ allBlocks) s else s

/-- End everything in hand, so that what follows finds a tick and a telemetry frame whole (R179, R145). R37 and R66 allow the
tick work of TE and MS before or after the deliveries left of the frame; the model takes the owed tick work first, its choice
(assumption log entry 28), and a command before this one can bring the other order about. -/
def State.settleAll (s : State) : State := s.settleTick.settleIntake

/-! ### Producing a tick (R146, R149) -/

/-- TG produces a tick: the tick before is whole by then, the prescaler and the divider start again from 0, the tick is
numbered, and every block has its work to take. -/
def State.produceTick (s : State) : State :=
  let s1 := s.settleTick
  let s2 := s1.withTg { prescaler := 0, divider := 0, counter := (s1.tg.counter + 1) % 16777216 }
  s2.withInHand { s2.inHand with tick := TickOwed.all }

/-- No tick is produced or taken while a reset holds, and none is produced while the reference clock is absent
(R146, R182). -/
def State.tickEvent (phase : TickPhase) (blocks : List TickBlock) (s : State) : State :=
  if s.held then s
  else
    match phase with
    | .deliver => State.takeWorks blocks s
    | .produce => if s.pins.refclkAbsent then s else State.takeWorks blocks s.produceTick

/-! ### What a block's tick work brings about: the rows of the table

Each such row is the tick work of its block, taken when it brings the row's event about; in a state in which the block
owes no tick work, or its work would not bring the event about, the event does not occur (assumption log entry 5). -/

/-- A chain's slew memory expires at its next tick (R16). -/
def State.expiryDue (s : State) (c : Chain) : Bool :=
  (s.ge.slew.get c).valid && s.param .slewExpiry ≤ (((s.ge.slew.get c).age + 1 : Nat) : Int)

/-- TICK (R149). -/
def execTick (phase : TickPhase) (blocks : List TickBlock) (s : State) : Host.Outcome State Fault Refusal :=
  .next (s.tickEvent phase blocks)

/-- SLEW_EXPIRY (R16). -/
def execSlewExpiry (c : Chain) (s : State) : Host.Outcome State Fault Refusal :=
  .next (if s.expiryDue c then s.takeWork .ge else s)

/-- STREAM_QUIET (R28). -/
def execStreamQuiet (s : State) : Host.Outcome State Fault Refusal :=
  .next (if s.quietDue then s.takeWork .ge else s)

/-- OBSERVATION_STALE (R140): a frame in hand is ended before the kind's count is looked at (R131). -/
def execObservationStale (k : ObsKind) (s : State) : Host.Outcome State Fault Refusal :=
  .next (if (s.settleIntake.obsOf k).fresh = 1 then s.takeWork .ti else s)

/-- WINDOW_ROTATION (R79). -/
def execWindowRotation (s : State) : Host.Outcome State Fault Refusal :=
  .next (if s.sa.counter ≤ 1 then s.takeWork .sa else s)

/-- RECOVERY (R60). -/
def execRecovery (c : Chain) (s : State) : Host.Outcome State Fault Refusal :=
  .next (if s.recoveryDue c then s.takeWork .ms else s)

/-- PARKING (R61). -/
def execParking (c : Chain) (s : State) : Host.Outcome State Fault Refusal :=
  .next (if s.parkingDue c then s.takeWork .ms else s)

/-- PARK_RELEASE (R62). -/
def execParkRelease (c : Chain) (s : State) : Host.Outcome State Fault Refusal :=
  .next (if s.releaseDue c then s.takeWork .ms else s)

/-! ### The reference clock (R146) -/

/-- REFCLK_STOP: the reference clock goes absent. A tick produced before that reaches its blocks first, and then every
count holds where it stands (R146). -/
def execRefclkStop (s : State) : Host.Outcome State Fault Refusal :=
  .next (s.settleTick.withPins { s.pins with refclkAbsent := true })

/-- REFCLK_RESUME: the reference clock returns; the divider resumes from the count it held. -/
def execRefclkResume (s : State) : Host.Outcome State Fault Refusal :=
  .next (s.withPins { s.pins with refclkAbsent := false })

end Sys2Proof.Machine
end

