-- ==== Sys2Proof/Machine/Resets.lean ====
section
/-! DEFINITION. The reset values of every block and the resets of the pins and supplies (R172, R181 to R183). -/

namespace Sys2Proof.Machine

/-- The reset values that every reset gives to every block but OL, LI and RH's cause record (the table of R182); nothing
stays in hand. -/
def State.blocksReset (s : State) : State :=
  { s with
    rh := { s.rh with params := defaultParams }
    ge := GrantEngine.reset
    te := ThermalEstimator.reset
    ms := Vector.replicate 4 ChainRecord.reset
    sa := SupplyAllocator.reset
    cs := CurveStore.reset
    cb := ConfigBanks.reset
    ti := TelemetryIntake.reset
    tg := TickGenerator.reset
    nu := NoticeUnit.reset
    inHand := InHand.reset }

/-- The reset values of every block under a power-on or pin reset: the log and the links emptied too (R160, R172). While
such a reset holds, every block stands at them (R182). -/
def State.hardReset (s : State) : State := { s.blocksReset with ol := ObservationLog.reset, li := LinkInterface.reset }

/-- A power-on or pin reset takes effect: the cause is recorded, every block takes its reset values, and the RESET
record is appended (R181, R182), carrying the count 0 (R153). -/
def State.takeHardReset (cause : ResetCause) (count : Nat) (s : State) : State :=
  State.record (.reset cause 0) { s.hardReset with rh := { params := defaultParams, cause := cause, softCount := count } }

/-- POWER_ON_RESET: the supplies come into range. While RESETN is low the pin reset goes on holding, and this release
is not the last (R182). -/
def execPowerOnReset (s : State) : Host.Outcome State Fault Refusal :=
  let s1 := s.withPins { s.pins with supplyOut := false }
  .next (if s.pins.resetLow then { s1.hardReset with rh := { s1.rh with params := defaultParams, softCount := 0 } }
    else s1.takeHardReset .powerOn 0)

/-- SUPPLY_OUT_OF_RANGE: the power-on reset holds; once it has held, the soft-reset count is clear (R182). -/
def execSupplyOutOfRange (s : State) : Host.Outcome State Fault Refusal :=
  let s1 := s.withPins { s.pins with supplyOut := true }
  .next { s1.hardReset with rh := { s1.rh with params := defaultParams, softCount := 0 } }

/-- PIN_RESET_ASSERT: RESETN goes low and the pin reset holds (R182). -/
def execPinResetAssert (s : State) : Host.Outcome State Fault Refusal :=
  .next (s.withPins { s.pins with resetLow := true }).hardReset

/-- PIN_RESET_RELEASE: RESETN returns high; the pin reset keeps the soft-reset count (R181). While a supply is out of
range the power-on reset goes on holding (R182). -/
def execPinResetRelease (s : State) : Host.Outcome State Fault Refusal :=
  let s1 := s.withPins { s.pins with resetLow := false }
  .next (if s.pins.supplyOut then s1.hardReset else s1.takeHardReset .pin s1.rh.softCount)

end Sys2Proof.Machine
end

