-- ==== Sys2Proof/Machine/Requests.lean ====
section
/-! DEFINITION. Governor requests (chapter 11): taking a request and answering it, the structure checks, and the requests
that concern the governor as a whole. -/

namespace Sys2Proof.Machine

/-! ### Taking and answering (R167, R173, R174) -/

/-- What a request answers: its status, the MORE flag, and the words from word 2 on. -/
structure Reply where
  status : Status
  more : Bool
  words : List Word
  deriving DecidableEq, Repr

/-- A refusal: the status word alone (R173). -/
def refuse (st : Status) : Reply := { status := st, more := false, words := [] }

/-- A request carried out, OK or CLAMPED, with its result words. -/
def done (clamped : Bool) (words : List Word) : Reply :=
  { status := if clamped then .clamped else .ok, more := false, words := words }

/-- Place the RESPONSE in the insert queue: the request's tag, the code echoed, the status, the results (R171, R173). -/
def State.respond (tag : BitVec 4) (code : Nat) (r : Reply) (s : State) : State :=
  s.queueGov (.response tag (statusWord code r.status r.more :: r.words))

/-- The form field and the reserved bits of the request word are sound (R173): bits 7..0 are 0, and the form is 0, or 1
for a standby write. -/
def formGood (code : Nat) (low : BitVec 10) : Bool :=
  low.toNat % 256 == 0 && decide (low.toNat / 256 ≤ if 5 ≤ code ∧ code ≤ 7 then 1 else 0)

/-- The number of operand words is the one the code requires (section 11.1, R173). -/
def lengthGood (code : Nat) (args : List Word) : Bool :=
  match code with
  | 2 => args.length == 1
  | 3 => args.length == 3
  | 4 => args.length == 1
  | 5 => args.length == 11
  | 6 => args.length == 13
  | 7 => args.length == 5
  | 9 => args.length == 1
  | 11 => args.length == 4
  | 12 => args.length == 4
  | 13 => args.length ≤ 30
  | 14 => args.length == 1
  | 15 => 2 ≤ args.length && args.length == 2 + (args.getD 1 0).toNat
  | 16 => args.length == 2
  | 17 => args.length == 1
  | 18 => args.length == 1
  | 20 => args.length == 1
  | _ => args.length == 0

/-- RH takes a request as one event (R167, R173, R174): dropped with a LINK record when 4 frames stand in the insert
queue; answered FORMAT when its structure is unsound; else its effect, then its RESPONSE. -/
def State.request (tag : BitVec 4) (code : Nat) (low : BitVec 10) (args : List Word) (effect : State → State × Reply)
    (s : State) : State :=
  if 4 ≤ s.li.insert.length then s.linkFault .droppedRequest
  else if formGood code low = false ∨ lengthGood code args = false then s.respond tag code (refuse .format)
  else (effect s).1.respond tag code (effect s).2

/-- The form of a standby write is ZERO (section 11.1). -/
def zeroForm (low : BitVec 10) : Bool := low.toNat / 256 == 1

/-- Operand word k, counted from 0. -/
def arg (args : List Word) (k : Nat) : Word := args.getD k 0

/-! ### IDENTIFY and MODE SET (R175, R176) -/

/-- R175. -/
def identifyEffect (s : State) : State × Reply :=
  (s, done false ([0x4210, 3, 4, 2, 16, 32, 16, 512] : List Word))

/-- A MODE SET naming ACTIVE is refused while the active bank, or the standby bank of a pending flip, holds no present
descriptor (R4, R176). -/
def State.activeRefused (s : State) : Bool :=
  !s.cb.activeBank.hasPresent || (s.cb.flip.isSome && !s.cb.standbyBank.hasPresent)

/-- R176, R4. -/
def modeSetEffect (args : List Word) (s : State) : State × Reply :=
  match Mode.ofCode (arg args 0).toNat with
  | none => (s, refuse .range)
  | some m =>
    if m = .active ∧ s.activeRefused = true then (s, refuse .notReady)
    else (s.withGe { s.ge with mode := m, slew := clearSlew s.ge.slew }, done false [Word.ofNatural m.code])

/-! ### Parameters (R177, R178) -/

/-- The signed 32-bit value of two words, high word first (section 11.1). -/
def signed32 (hi lo : Word) : Int := signedField 32 (hi.toNat * 65536 + lo.toNat)

/-- A value as two words, high word first. -/
def words32 (v : Int) : List Word :=
  [BitVec.ofNat 16 ((BitVec.ofInt 32 v).toNat / 65536), BitVec.ofNat 16 ((BitVec.ofInt 32 v).toNat % 65536)]

/-- The interval that the owning rule ties a parameter to: the zone thresholds to their neighbours (R47), the mismatch
thresholds to each other (R68). -/
def State.tiedClamp (s : State) (p : ParamId) (v : Int) : Int :=
  match p with
  | .warm => clamp (-160) (s.param .hot - 1) v
  | .hot => clamp (s.param .warm + 1) (s.param .critical - 1) v
  | .critical => clamp (s.param .hot + 1) 600 v
  | .detuneThreshold => clamp (s.param .severeThreshold + 1) 127 v
  | .severeThreshold => clamp 0 (s.param .detuneThreshold - 1) v
  | _ => v

/-- The value a PARAM WRITE stores: clamped to the range, then to the tied interval (R177). -/
def State.storedValue (s : State) (p : ParamId) (v : Int) : Int := s.tiedClamp p (clamp p.range.1 p.range.2 v)

/-- The three result words of PARAM WRITE and PARAM READ: id and value (R177, R178). -/
def paramWords (p : ParamId) (v : Int) : List Word := Word.ofNatural p.id :: words32 v

/-- A PARAM WRITE of a parameter by its kind: an enumerated value outside its codes is refused RANGE, any other value is
stored clamped, and `after` acts within the write's own event (R177). -/
def paramStore (p : ParamId) (v : Int) (after : State → State) (s : State) : State × Reply :=
  if p.enumerated = true ∧ (v < p.range.1 ∨ p.range.2 < v) then (s, refuse .range)
  else (after (s.setParam p (s.storedValue p v)), done (s.storedValue p v != v) (paramWords p (s.storedValue p v)))

/-- TICK CODE: the prescaler and the divider return to 0; no tick is produced and the counter stands (R147). -/
def State.restartTiming (s : State) : State := s.withTg { s.tg with prescaler := 0, divider := 0 }

/-- R147. `args` are the two value words. -/
def tickCodeEffect (args : List Word) (s : State) : State × Reply :=
  paramStore .tickCode (signed32 (arg args 0) (arg args 1)) State.restartTiming s

/-- R33: while BOARD is stale the write changes θ_ref, and both zones are evaluated. -/
def boardFallbackEffect (args : List Word) (s : State) : State × Reply :=
  paramStore .boardFallback (signed32 (arg args 0) (arg args 1)) (fun t => if t.isFresh .board then t else t.evalZones) s

/-- What NU does when the enable set is written (R161, R162): the NON_LATCHED test, or in LATCHED mode a call for a
NOTICE when a class already pending has become enabled. -/
def State.enableWritten (before : ClassSet) (s : State) : State :=
  if s.latched then (if s.enableSet &&& ~~~ before &&& s.nu.pending ≠ 0 then s.noticeCall else s) else s.noticeTest

/-- R162. -/
def noticeEnableEffect (args : List Word) (s : State) : State × Reply :=
  paramStore .noticeEnable (signed32 (arg args 0) (arg args 1)) (State.enableWritten s.enableSet) s

/-- What NU does when the latch mode is written (R161, R162): a change from LATCHED to NON_LATCHED clears notice owed,
and the NON_LATCHED test runs; a write that leaves LATCHED standing, or enters it, does nothing. -/
def State.latchWritten (before : Bool) (s : State) : State :=
  if s.latched then s
  else if before then (s.withNu { s.nu with owed := false }).noticeTest
  else s.noticeTest

/-- R162. -/
def noticeLatchEffect (args : List Word) (s : State) : State × Reply :=
  paramStore .noticeLatch (signed32 (arg args 0) (arg args 1)) (State.latchWritten s.latched) s

/-- R177: the parameter is named by its id; four parameters act within their own event. A write may fall between two readings
of one telemetry frame, stale ticks among the rest, and the readings after it find the new value: R131 leaves that open, and
it is the model's choice (assumption log entry 29). -/
def paramWriteEffect (args : List Word) (s : State) : State × Reply :=
  match ParamId.ofId (arg args 0).toNat with
  | none => (s, refuse .range)
  | some .tickCode => tickCodeEffect (args.drop 1) s
  | some .boardFallback => boardFallbackEffect (args.drop 1) s
  | some .noticeEnable => noticeEnableEffect (args.drop 1) s
  | some .noticeLatch => noticeLatchEffect (args.drop 1) s
  | some p => paramStore p (signed32 (arg args 1) (arg args 2)) id s

/-- R178. -/
def paramReadEffect (args : List Word) (s : State) : State × Reply :=
  match ParamId.ofId (arg args 0).toNat with
  | none => (s, refuse .range)
  | some p => (s, done false (paramWords p (s.param p)))

/-! ### STATE READ (R179) -/

/-- A number as two words, high word first. -/
def words2 (n : Nat) : List Word := [Word.ofNatural (n / 65536), Word.ofNatural (n % 65536)]

/-- The cause and the soft-reset count in one word: cause 1..0, count 15..8 (R179, R183). -/
def causeWord (c : ResetCause) (count : Nat) : Word := Word.ofNatural (count * 256 + c.code)

/-- Section 0, GENERAL. With no flip pending the point bit is a free value (assumption log entry 25). -/
def State.generalWords (s : State) : List Word :=
  [Word.ofNatural (s.ge.mode.code + flagBit (s.ge.stream == .quiet) * 4 + flagBit s.cb.flip.isSome * 8
     + flagBit s.pointBit * 16 + s.cb.active.val * 32 + flagBit (!s.ol.store.isEmpty) * 64
     + s.paramNat .tickCode * 256),
   Word.ofNatural s.ge.quietCount]
  ++ words2 s.tg.counter
  ++ [Word.ofNatural s.ol.fill, Word.ofNatural s.ol.lost, Word.ofNatural s.ol.firstLoss, Word.ofNatural s.nu.pending.toNat,
      causeWord s.rh.cause s.rh.softCount]

/-- One module's words in section 1. -/
def State.moduleWords (s : State) (m : Module) : List Word :=
  [Word.ofNatural (s.te.get m).rise, Word.ofSigned (s.thetaEst m), Word.ofNatural (s.te.get m).zone.code]
  ++ words2 (s.te.get m).heat

/-- Section 1, THERMAL (R51). -/
def State.thermalWords (s : State) : List Word :=
  [Word.ofSigned s.boardRef, Word.ofNatural (flagBit (!s.isFresh .board))] ++ s.moduleWords .a ++ s.moduleWords .b

/-- One chain's words in section 2 (R72). -/
def State.chainWords (s : State) (c : Chain) : List Word :=
  let r := s.ms.get c
  let m := s.ge.slew.get c
  [Word.ofNatural (r.state.code + r.confirm * 4 + flagBit r.improving * 64 + flagBit r.probe * 128 + flagBit m.valid * 256),
   Word.ofNatural (r.recovery * 256 + r.severe), Word.ofNatural (r.park * 256 + m.age), Word.ofSigned r.lastRL,
   Word.ofSigned m.last]

/-- Buckets of 24 bits, most significant first, three words to every two (R179). -/
def bucketWords : List Nat → List Word
  | a :: b :: rest =>
    [Word.ofNatural (a / 256), Word.ofNatural (a % 256 * 256 + b / 65536), Word.ofNatural (b % 65536)] ++ bucketWords rest
  | _ => []

/-- Section 3, SUPPLY (R87). -/
def State.supplyWords (s : State) : List Word :=
  [Word.ofNatural (s.sa.charge.code + flagBit (!s.supplyFromCurve) * 2)] ++ words2 s.sa.windowSum
  ++ [Word.ofNatural s.sa.counter, Word.ofSigned s.baseAllowance, Word.ofSigned s.allowance]
  ++ bucketWords s.sa.buckets.toList

/-- One observation's words in section 4 (R143). -/
def Observation.words (o : Observation) : List Word :=
  [Word.ofSigned o.value, Word.ofNatural (o.fresh + flagBit o.saturated * 256)]

/-- The section that a code names; a code outside 0..4 names none (R179). -/
def State.sectionWords (s : State) : Nat → Option (List Word)
  | 0 => some s.generalWords
  | 1 => some s.thermalWords
  | 2 => some (s.chainWords 0 ++ s.chainWords 1 ++ s.chainWords 2 ++ s.chainWords 3)
  | 3 => some s.supplyWords
  | 4 => some ((obsAll.map fun k => (s.obsOf k).words).flatten)
  | _ => none

/-- R179: a tick and a telemetry frame are wholly before the read. -/
def stateReadEffect (args : List Word) (s : State) : State × Reply :=
  match s.settleAll.sectionWords (arg args 0).toNat with
  | none => (s, refuse .range)
  | some ws => (s.settleAll, done false ws)

/-! ### SOFT RESET (R183) -/

/-- The log's part of a soft reset before its RESET record: the contents and loss data kept, the downsampling counters
0 (R160). -/
def ObservationLog.softReset (o : ObservationLog) : ObservationLog :=
  { o with grantCounter := 0, readingCounters := Vector.replicate 12 0 }

/-- LI's part of a soft reset (R172): the receivers SEEKING, the insert queue emptied but for the response, the
alternation memory TRANSIT; frames received whole and frames being sent are kept. -/
def LinkInterface.softReset (l : LinkInterface) (response : GovFrame) : LinkInterface :=
  { l with rxDown := .seeking, rxUp := .seeking, insert := [response], lastServed := .transit }

/-- The soft-reset count after one more, saturating at 255 (R181). -/
def nextSoftCount (n : Nat) : Nat := min 255 (n + 1)

/-- The RESPONSE of a SOFT RESET: status OK, then the cause SOFT and the new count (R183). -/
def softResponse (tag : BitVec 4) (count : Nat) : GovFrame :=
  .response tag [statusWord 21 .ok false, causeWord .soft count]

/-- SOFT RESET in the order of R183: what is in hand is ended, the cause record is updated, the response is placed, every
block takes its reset values, LI keeps its frames, and the RESET record is appended, carrying the count 0 (R153). -/
def State.softResetEvent (tag : BitVec 4) (s : State) : State :=
  let s1 := s.settleAll
  let count := nextSoftCount s1.rh.softCount
  let s2 := { s1.blocksReset with
    rh := { params := defaultParams, cause := .soft, softCount := count }
    ol := s1.ol.softReset
    li := s1.li.softReset (softResponse tag count) }
  s2.record (.reset .soft 0)

/-- A SOFT RESET request: dropped, answered FORMAT, or taken (R167, R173, R183). -/
def State.softResetRequest (tag : BitVec 4) (low : BitVec 10) (args : List Word) (s : State) : State :=
  if 4 ≤ s.li.insert.length then s.linkFault .droppedRequest
  else if formGood 21 low = false ∨ lengthGood 21 args = false then s.respond tag 21 (refuse .format)
  else s.softResetEvent tag

end Sys2Proof.Machine
end

