-- ==== Sys2Proof/Machine/Banks.lean ====
section
/-! DEFINITION. The bank requests (chapter 6): CHAIN WRITE, RULE WRITE, HEADER WRITE, COPY, FLIP, FLIP CANCEL and
TABLE READ. -/

namespace Sys2Proof.Machine

/-! ### Standby writes (R115 to R118) -/

/-- Field k is selected by a field-select word (section 10.4). -/
def selected (select : Word) (k : Nat) : Bool := bit select k

/-- The codes of selected fields are defined (R116): for each field with a test, unselected or passing it. -/
def codesGood (select : Word) (fields : List Word) (tests : List (Nat × (Nat → Bool))) : Bool :=
  tests.all fun t => !selected select t.1 || t.2 (arg fields t.1).toNat

/-- A flag or a two-valued field: code 0 or 1. -/
def twoCodes (n : Nat) : Bool := n ≤ 1

/-- An anchor match or shed policy: code 0 to 2. -/
def threeCodes (n : Nat) : Bool := n ≤ 2

/-- A descriptor's or supply curve reference: a slot or NONE (16). -/
def curveCode (n : Nat) : Bool := n ≤ 16

/-- A rule's or default action's ceiling: a slot or DEFAULT (17). -/
def ceilingCode (n : Nat) : Bool := n < 16 || n == 17

/-- The enumerated fields of CHAIN WRITE: present, module, default ceiling, heat curve, current curve (R116). -/
def chainTests : List (Nat × (Nat → Bool)) := [(0, twoCodes), (1, twoCodes), (6, curveCode), (7, curveCode), (8, curveCode)]

/-- The enumerated fields of RULE WRITE: valid, anchor match, ceiling curve, shed policy, log-always (R116). -/
def ruleTests : List (Nat × (Nat → Bool)) := [(0, twoCodes), (6, threeCodes), (7, ceilingCode), (9, threeCodes), (10, twoCodes)]

/-- The enumerated fields of HEADER WRITE: supply curve, default ceiling, default shed (R116). -/
def headerTests : List (Nat × (Nat → Bool)) := [(0, curveCode), (1, ceilingCode), (3, threeCodes)]

/-- The value of a field after a write: the carried value when selected, else what the form leaves. -/
def pick {α : Type} (select : Word) (k : Nat) (carried kept : α) : α := if selected select k then carried else kept

/-- A numeric field that was selected and clamped (R117). -/
def clampedField (select : Word) (k : Nat) (lo hi v : Int) : Bool := selected select k && clamp lo hi v != v

/-- A descriptor after a CHAIN WRITE, before the floor is held to the rated max (R115, R117). -/
def writeDescriptor (base : Descriptor) (select : Word) (f : List Word) : Descriptor :=
  { present := pick select 0 (bit (arg f 0) 0) base.present
    module := pick select 1 (if bit (arg f 1) 0 then .b else .a) base.module
    priority := pick select 2 (bits (arg f 2) 0 2) base.priority
    rated := pick select 3 (clamp (-200) 140 (arg f 3).toInt) base.rated
    floor := pick select 4 (clamp (-200) 140 (arg f 4).toInt) base.floor
    rise := pick select 5 (clamp 1 32 (arg f 5).toNat) base.rise
    ceiling := pick select 6 (CurveRef.ofCode (arg f 6).toNat) base.ceiling
    heat := pick select 7 (CurveRef.ofCode (arg f 7).toNat) base.heat
    current := pick select 8 (CurveRef.ofCode (arg f 8).toNat) base.current }

/-- The floor held at or below the rated max (R117). -/
def Descriptor.holdFloor (d : Descriptor) : Descriptor := { d with floor := min d.floor d.rated }

/-- Some value of a CHAIN WRITE was changed by a clamp, the floor's included (R117). -/
def descriptorClamped (base : Descriptor) (select : Word) (f : List Word) : Bool :=
  clampedField select 3 (-200) 140 (arg f 3).toInt || clampedField select 4 (-200) 140 (arg f 4).toInt
    || clampedField select 5 1 32 (arg f 5).toNat
    || (writeDescriptor base select f).holdFloor.floor != (writeDescriptor base select f).floor

/-- A rule after a RULE WRITE (R115, R116, R117). -/
def writeRule (base : Rule) (select : Word) (f : List Word) : Rule :=
  { valid := pick select 0 (bit (arg f 0) 0) base.valid
    chains := pick select 1 (BitVec.ofNat 4 (arg f 1).toNat) base.chains
    bands := pick select 2 (arg f 2) base.bands
    waveforms := pick select 3 (BitVec.ofNat 4 (arg f 3).toNat) base.waveforms
    zones := pick select 4 (BitVec.ofNat 4 (arg f 4).toNat) base.zones
    mismatches := pick select 5 (BitVec.ofNat 3 (arg f 5).toNat) base.mismatches
    anchor := pick select 6 (AnchorMatch.ofCode (arg f 6).toNat) base.anchor
    ceiling := pick select 7 (CeilingRef.ofCode (arg f 7).toNat) base.ceiling
    backoff := pick select 8 (clamp 0 63 (arg f 8).toNat) base.backoff
    shed := pick select 9 (ShedPolicy.ofCode (arg f 9).toNat) base.shed
    logAlways := pick select 10 (bit (arg f 10) 0) base.logAlways }

/-- A header after a HEADER WRITE (R115, R117). -/
def writeHeader (base : Header) (select : Word) (f : List Word) : Header :=
  { supply := pick select 0 (CurveRef.ofCode (arg f 0).toNat) base.supply
    ceiling := pick select 1 (CeilingRef.ofCode (arg f 1).toNat) base.ceiling
    backoff := pick select 2 (clamp 0 63 (arg f 2).toNat) base.backoff
    shed := pick select 3 (ShedPolicy.ofCode (arg f 3).toNat) base.shed }

/-- Replace the standby bank. -/
def State.setStandbyBank (s : State) (b : Bank) : State := s.withCb (s.cb.setStandby b)

/-- R115 to R117, for a descriptor. -/
def chainWriteEffect (low : BitVec 10) (args : List Word) (s : State) : State × Reply :=
  let f := args.drop 2
  if s.cb.flip.isSome then (s, refuse .busy)
  else if h : (arg args 0).toNat < 4 then
    if codesGood (arg args 1) f chainTests = false then (s, refuse .range)
    else
      let b := s.cb.standbyBank
      let base := if zeroForm low then Descriptor.empty else b.descriptor ⟨(arg args 0).toNat, h⟩
      let d := (writeDescriptor base (arg args 1) f).holdFloor
      (s.setStandbyBank { b with chains := b.chains.set (arg args 0).toNat d h },
        done (descriptorClamped base (arg args 1) f) (arg args 0 :: d.packed))
  else (s, refuse .range)

/-- R115 to R117, for a rule. -/
def ruleWriteEffect (low : BitVec 10) (args : List Word) (s : State) : State × Reply :=
  let f := args.drop 2
  if s.cb.flip.isSome then (s, refuse .busy)
  else if h : (arg args 0).toNat < 32 then
    if codesGood (arg args 1) f ruleTests = false then (s, refuse .range)
    else
      let b := s.cb.standbyBank
      let base := if zeroForm low then Rule.empty else b.rules.get ⟨(arg args 0).toNat, h⟩
      let r := writeRule base (arg args 1) f
      (s.setStandbyBank { b with rules := b.rules.set (arg args 0).toNat r h },
        done (clampedField (arg args 1) 8 0 63 (arg f 8).toNat) (arg args 0 :: r.packed))
  else (s, refuse .range)

/-- R115 to R117, for the header. -/
def headerWriteEffect (low : BitVec 10) (args : List Word) (s : State) : State × Reply :=
  let f := args.drop 1
  if s.cb.flip.isSome then (s, refuse .busy)
  else if codesGood (arg args 0) f headerTests = false then (s, refuse .range)
  else
    let b := s.cb.standbyBank
    let base := if zeroForm low then Header.empty else b.header
    let h := writeHeader base (arg args 0) f
    (s.setStandbyBank { b with header := h }, done (clampedField (arg args 0) 2 0 63 (arg f 2).toNat) (0 :: h.packed))

/-- R119. -/
def copyEffect (s : State) : State × Reply :=
  if s.cb.flip.isSome then (s, refuse .busy) else (s.setStandbyBank s.cb.activeBank, done false [])

/-! ### FLIP and FLIP CANCEL (R121 to R124) -/

/-- The first reference in force of the standby bank that fails the check of R121. -/
def State.failingRef (s : State) : Option RefInForce := s.cb.standbyBank.refs.find? fun r => !s.cs.satisfies r

/-- A slot's state code (section 5.1). -/
def CurveSlot.stateCode : CurveSlot → Nat
  | .empty => 0
  | .loading _ => 1
  | .valid _ => 2
  | .invalid _ _ => 3

/-- A slot's invalid reason code, 0 when it is not INVALID (section 5.1). -/
def CurveSlot.reasonCode : CurveSlot → Nat
  | .invalid r _ => r.code
  | _ => 0

/-- What a slot holds, if it is not EMPTY. -/
def CurveSlot.data : CurveSlot → Option CurveData
  | .empty => none
  | .loading d => some d
  | .valid d => some d
  | .invalid _ d => some d

/-- A slot's kind code, 0 when EMPTY (R106, R180). -/
def CurveSlot.kindCode (c : CurveSlot) : Nat :=
  match c.data with
  | none => 0
  | some d => d.kind.code

/-- The words of a FLIP refused with cause REFERENCE (R121, R180). -/
def State.referenceWords (s : State) (r : RefInForce) : List Word :=
  [0, Word.ofNatural r.place, Word.ofNatural r.index, Word.ofNatural r.field, Word.ofNatural r.slot.val,
   Word.ofNatural ((s.cs.slots.get r.slot).stateCode + (s.cs.slots.get r.slot).kindCode * 4)]

/-- R121, R122. -/
def flipEffect (args : List Word) (s : State) : State × Reply :=
  match FlipPoint.ofCode (arg args 0).toNat with
  | none => (s, refuse .range)
  | some p =>
    if s.cb.flip.isSome then (s, refuse .busy)
    else
      match s.failingRef with
      | some r => (s, { status := .notReady, more := false, words := s.referenceWords r })
      | none =>
        if s.ge.mode = .active ∧ s.cb.standbyBank.hasPresent = false then
          (s, { status := .notReady, more := false, words := [1] })
        else if p = .quiet ∧ s.ge.stream = .quiet then (s.applyFlip .quiet, done false [1])
        else (s.withCb { s.cb with flip := some p }, done false [0])

/-- R124. -/
def flipCancelEffect (s : State) : State × Reply :=
  if s.cb.flip.isSome then (s.withCb { s.cb with flip := none }, done false []) else (s, refuse .state)

/-! ### TABLE READ (R120) -/

/-- The packed records of a run of a table. -/
def packedRun {α : Type} (pack : α → List Word) (first count : Nat) (xs : List α) : List Word :=
  (((xs.drop first).take count).map pack).flatten

/-- Word 2 of a TABLE READ's response: the resolved bank id, the active bank id, the pending flip and its point (R180).
With no flip pending the point bit is a free value (assumption log entry 25). -/
def State.tableWord (s : State) (id : Fin 2) : Word :=
  Word.ofNatural (id.val + s.cb.active.val * 2 + flagBit s.cb.flip.isSome * 4 + flagBit s.pointBit * 8)

/-- The records a TABLE READ asks for, if its table code and run are in range (R120): the first index returned, and the
packed records. -/
def Bank.tableRun (b : Bank) (table first count : Nat) : Option (Nat × List Word) :=
  match table with
  | 0 => some (0, b.header.packed)
  | 1 => if 1 ≤ count ∧ count ≤ 4 ∧ first + count ≤ 4 then some (first, packedRun Descriptor.packed first count b.chains.toList)
         else none
  | 2 => if 1 ≤ count ∧ count ≤ 4 ∧ first + count ≤ 32 then some (first, packedRun Rule.packed first count b.rules.toList)
         else none
  | _ => none

/-- The bank id a selector resolves to (R120): 0 ACTIVE, 1 STANDBY. -/
def State.selectBank (s : State) : Nat → Option (Fin 2)
  | 0 => some s.cb.active
  | 1 => some s.cb.standbyId
  | _ => none

/-- R120. -/
def tableReadEffect (args : List Word) (s : State) : State × Reply :=
  match s.selectBank (arg args 0).toNat with
  | none => (s, refuse .range)
  | some id =>
    match (s.cb.bank id).tableRun (arg args 1).toNat (arg args 2).toNat (arg args 3).toNat with
    | none => (s, refuse .range)
    | some (first, ws) => (s, done false (s.tableWord id :: Word.ofNatural first :: ws))

end Sys2Proof.Machine
end

