-- ==== Sys2Proof/Machine/CurveRequests.lean ====
section
/-! DEFINITION. The curve requests (chapter 5), the map requests (chapter 7), and the log and notice requests
(chapter 9). -/

namespace Sys2Proof.Machine

/-! ### CURVE OPEN (R96, R97) -/

/-- Store a curve slot. -/
def State.setSlot (s : State) (n : Fin 16) (c : CurveSlot) : State :=
  s.withCs { s.cs with slots := s.cs.slots.set n.val c n.isLt }

/-- The slot LOADING when another is opened becomes INVALID with reason ABANDONED, and a CURVE record is written (R97). -/
def State.abandon (opened : Fin 16) (s : State) : State :=
  match s.cs.cursor with
  | none => s
  | some l =>
    if l.slot = opened then s
    else
      match s.cs.slots.get l.slot with
      | .loading d => (s.setSlot l.slot (.invalid .abandoned d)).record (.curve l.slot .abandoned s.stamp)
      | _ => s

/-- The opened slot takes the new kind, x0 and s, and an empty list; the load cursor names it (R96, step 3). -/
def State.startLoading (n : Fin 16) (k : CurveKind) (x0 : Int) (shift : Nat) (s : State) : State :=
  let s1 := s.setSlot n (.loading { kind := k, x0 := x0, shift := shift, ys := [] })
  s1.withCs { s1.cs with cursor := some { slot := n, cursor := 0 } }

/-- R96. -/
def curveOpenEffect (args : List Word) (s : State) : State × Reply :=
  if h : (arg args 0).toNat < 16 then
    match CurveKind.ofCode (arg args 1).toNat with
    | none => (s, refuse .range)
    | some k =>
      if s.pinned ⟨(arg args 0).toNat, h⟩ then (s, refuse .inUse)
      else
        let x0 := clamp k.domain.1 k.domain.2 (arg args 2).toInt
        let shift := min 7 (arg args 3).toNat
        ((s.abandon ⟨(arg args 0).toNat, h⟩).startLoading ⟨(arg args 0).toNat, h⟩ k x0 shift,
          done (x0 != (arg args 2).toInt || shift != (arg args 3).toNat)
            [arg args 0, arg args 1, Word.ofSigned x0, Word.ofNatural shift])
  else (s, refuse .range)

/-! ### CURVE DATA (R98 to R100) -/

/-- The record of a curve that closed INVALID; a close to VALID writes none (R100). -/
def State.closeRecord (n : Fin 16) (c : CurveSlot) (s : State) : State :=
  match c with
  | .invalid r _ => s.record (.curve n r s.stamp)
  | _ => s

/-- R98 to R100. -/
def curveDataEffect (args : List Word) (s : State) : State × Reply :=
  if args.length = 0 then (s, refuse .format)
  else
    match s.cs.cursor with
    | none => (s, refuse .state)
    | some l =>
      match s.cs.slots.get l.slot with
      | .loading d =>
        if 17 < l.cursor + args.length then
          (s, { status := .length, more := false, words := [Word.ofNatural l.slot.val, Word.ofNatural l.cursor] })
        else
          let d1 := { d with ys := d.ys ++ args.map BitVec.toInt }
          if l.cursor + args.length = 17 then
            let c := closeCurve d1
            let s1 := s.setSlot l.slot c
            ((s1.withCs { s1.cs with cursor := none }).closeRecord l.slot c,
              done false [Word.ofNatural l.slot.val, 17, Word.ofNatural (c.stateCode + c.reasonCode * 4)])
          else
            let s1 := s.setSlot l.slot (.loading d1)
            (s1.withCs { s1.cs with cursor := some { slot := l.slot, cursor := l.cursor + args.length } },
              done false [Word.ofNatural l.slot.val, Word.ofNatural (l.cursor + args.length)])
      | _ => (s, refuse .state)

/-! ### CURVE READ (R106) -/

/-- What a CURVE READ returns of a slot (R106, R180). -/
def CurveSlot.readWords (c : CurveSlot) (pinned : Bool) : List Word :=
  let w := Word.ofNatural (c.stateCode + c.reasonCode * 4 + flagBit pinned * 16 + c.kindCode * 32)
  match c.data with
  | none => [w, 0, 0, 0]
  | some d => [w, Word.ofSigned d.x0, Word.ofNatural d.shift, Word.ofNatural d.ys.length] ++ d.ys.map Word.ofSigned

/-- R106. -/
def curveReadEffect (args : List Word) (s : State) : State × Reply :=
  if h : (arg args 0).toNat < 16 then
    (s, done false ((s.cs.slots.get ⟨(arg args 0).toNat, h⟩).readWords (s.pinned ⟨(arg args 0).toNat, h⟩)))
  else (s, refuse .range)

/-! ### MAP WRITE and MAP READ (R133, R134) -/

/-- A run of channels is in range: a count of 1..16, and first + count at most 16 (R133, R134). -/
def runGood (first count : Nat) : Bool := 1 ≤ count && count ≤ 16 && first + count ≤ 16

/-- The map entry a word carries, its offset clamped (R133). -/
def readMapEntry (w : Word) : MapEntry :=
  { kind := obsOfCode (bits w 12 4), offset := clamp (-128) 127 (signedField 12 (bits w 0 12)) }

/-- The offset a map word carries was clamped (R133). -/
def mapClamped (w : Word) : Bool := clamp (-128) 127 (signedField 12 (bits w 0 12)) != signedField 12 (bits w 0 12)

/-- Map entries written from a first channel on (R133). -/
def writeMap (m : Vector MapEntry 16) (first : Nat) : List Word → Vector MapEntry 16
  | [] => m
  | w :: ws => if h : first < 16 then writeMap (m.set first (readMapEntry w) h) (first + 1) ws else m

/-- The words of a run of map entries (R180). -/
def mapRun (m : Vector MapEntry 16) (first count : Nat) : List Word :=
  ((m.toList.drop first).take count).map MapEntry.word

/-- R133. A frame in hand is wholly before the write (R131). -/
def mapWriteEffect (args : List Word) (s : State) : State × Reply :=
  let first := (arg args 0).toNat
  let count := (arg args 1).toNat
  let ws := args.drop 2
  if runGood first count = false then (s, refuse .range)
  else if ws.any (fun w => decide (12 < bits w 12 4)) then (s, refuse .range)
  else
    let s1 := s.settleIntake
    let m := writeMap s1.ti.map first ws
    (s1.withTi { s1.ti with map := m }, done (ws.any mapClamped) (arg args 0 :: arg args 1 :: mapRun m first count))

/-- R134. A frame in hand is wholly before the read. -/
def mapReadEffect (args : List Word) (s : State) : State × Reply :=
  if runGood (arg args 0).toNat (arg args 1).toNat = false then (s, refuse .range)
  else (s.settleIntake, done false (arg args 0 :: arg args 1 :: mapRun s.settleIntake.ti.map (arg args 0).toNat (arg args 1).toNat))

/-! ### LOG READ and LOG FLUSH (R158, R159) -/

/-- The whole records that fit in a number of words, from the oldest: those taken and those left (R158). -/
def takeRecords : Nat → List Record → List Record × List Record
  | _, [] => ([], [])
  | room, r :: rs =>
    if r.length ≤ room then (r :: (takeRecords (room - r.length) rs).1, (takeRecords (room - r.length) rs).2)
    else ([], r :: rs)

/-- The words of a list of records, in store order. -/
def recordsWords (rs : List Record) : List Word := (rs.map Record.words).flatten

/-- R158. -/
def logReadEffect (args : List Word) (s : State) : State × Reply :=
  let max := (arg args 0).toNat
  if max < 1 ∨ 30 < max then (s, refuse .range)
  else
    let taken := (takeRecords max s.ol.store).1
    let left := (takeRecords max s.ol.store).2
    let ol1 := { s.ol with store := left, fill := s.ol.fill - recordsLength taken }
    if left = [] ∧ recordsLength taken + 4 ≤ max then
      (s.withOl { ol1 with lost := 0, firstLoss := 0 },
        { status := .ok, more := false, words := recordsWords taken ++ timeRecord s.tg.counter s.ol.lost s.ol.firstLoss })
    else (s.withOl ol1, { status := .ok, more := !left.isEmpty, words := recordsWords taken })

/-- R159. -/
def logFlushEffect (s : State) : State × Reply := (s.withOl { s.ol with store := [], fill := 0 }, done false [])

/-! ### NOTICE CLEAR (R163) -/

/-- R163. -/
def noticeClearEffect (args : List Word) (s : State) : State × Reply :=
  if 1024 ≤ (arg args 0).toNat then (s, refuse .range)
  else (s.withNu { s.nu with pending := s.nu.pending &&& ~~~ BitVec.ofNat 10 (arg args 0).toNat }, done false [])

end Sys2Proof.Machine
end

