-- ==== Sys2Proof/Machine/Govern.lean ====
section
/-! DEFINITION. The governing of a slot order (chapter 1): the stages of an entry, current fitting, output and
accounting. -/

namespace Sys2Proof.Machine

/-! ### Rule matching (R10, R113, R114) -/

/-- The action that governs an entry. -/
structure Action where
  ceiling : CeilingRef
  backoff : Int
  shed : ShedPolicy
  logAlways : Bool
  deriving DecidableEq, Repr

/-- The six tests of a rule (R113), for an entry whose module stands in a zone and whose chain in a mismatch state. -/
def Rule.accepts (r : Rule) (e : Entry) (z : Zone) (m : MismatchState) : Bool :=
  inMask r.chains e.chain.val && inMask r.bands e.band && inMask r.waveforms e.waveform && inMask r.zones z.code
    && inMask r.mismatches m.code && anchorAccepts r.anchor e.anchor

/-- The action of a rule. -/
def Rule.action (r : Rule) : Action :=
  { ceiling := r.ceiling, backoff := r.backoff, shed := r.shed, logAlways := r.logAlways }

/-- The default action of a header; it has no log-always flag (R112). -/
def Header.action (h : Header) : Action := { ceiling := h.ceiling, backoff := h.backoff, shed := h.shed, logAlways := false }

/-- The first valid rule, in index order, that accepts the entry supplies the action; else the default action (R114). -/
def Bank.matchRule (b : Bank) (e : Entry) (z : Zone) (m : MismatchState) : Action :=
  match b.rules.toList.find? (fun r => r.valid && r.accepts e z m) with
  | some r => r.action
  | none => b.header.action

/-! ### The stages of one entry (R8 to R15) -/

/-- An entry on its way through the stages: its working value and working reason (R8), the descriptor that governs it,
its resolved shed policy, and whether its matched rule has log-always set. -/
structure Working where
  entry : Entry
  desc : Descriptor
  value : Power
  reason : Reason
  forbid : Bool
  logAlways : Bool
  deriving DecidableEq, Repr

/-- Screening (R9): the reason of the first test that applies, or nothing when the entry passes. -/
def State.screen (s : State) (earlier : List Chain) (e : Entry) : Option Reason :=
  if e.request = .off then some .none
  else if e.chain ∈ earlier then some .duplicate
  else if (s.cb.activeBank.descriptor e.chain).present = false then some .absent
  else if (s.ms.get e.chain).state = .parked then some .parked
  else none

/-- The thermal ceiling T (R11). -/
def State.thermalCeiling (s : State) (d : Descriptor) (a : Action) : Int :=
  match a.ceiling with
  | .slot n => s.cs.eval n (s.thetaEst d.module) - a.backoff
  | .default =>
    match d.ceiling with
    | .slot n => s.cs.eval n (s.thetaEst d.module) - a.backoff
    | .none => d.rated - a.backoff

/-- The mismatch ceiling before the probe limit (R12). A PARKED entry never reaches this stage (R9). -/
def State.stateCeiling (s : State) (m : MismatchState) (rated : Int) : Int :=
  match m with
  | .matched => rated
  | .detuned => rated - s.param .detuneBackoff
  | .severe => rated - s.param .severeBackoff
  | .parked => rated

/-- The mismatch ceiling M (R12, R63). -/
def State.mismatchCeiling (s : State) (c : Chain) (rated : Int) : Int :=
  if (s.ms.get c).probe then min (s.stateCeiling (s.ms.get c).state rated) (s.param .probeCeiling)
  else s.stateCeiling (s.ms.get c).state rated

/-- Stage 3 (R13): the least of the request and the three ceilings, and the reason, ties going to THERMAL, then
MISMATCH, then RATED. -/
def ceilingStage (request t m rated : Int) : Int × Reason :=
  let g := min (min request t) (min m rated)
  (g, if g = request then .none else if g = t then .thermal else if m < rated ∧ g = m then .mismatch else .rated)

/-- Stage 4 (R14): a rise above the last grant plus the rise step is capped while the slew memory is valid. -/
def slewStage (mem : SlewMemory) (rise g : Int) (r : Reason) : Int × Reason :=
  if mem.valid = true ∧ mem.last + rise < g then (mem.last + rise, .slew) else (g, r)

/-- Stage 5 (R15): below both the request and the floor, an entry is shed or held at min(floor, request). -/
def floorStage (request floor g : Int) (forbid : Bool) (r : Reason) : Power × Reason :=
  if g < request ∧ g < floor then (if forbid then (.on (min floor request), .floor) else (.off, .shed)) else (.on g, r)

/-- Stages 1 to 6 of one entry (R8): screening, rule action, ceilings, slew, floor. -/
def State.stageEntry (s : State) (earlier : List Chain) (e : Entry) : Working :=
  let d := s.cb.activeBank.descriptor e.chain
  match s.screen earlier e, e.request with
  | none, .on request =>
    let a := s.cb.activeBank.matchRule e (s.te.get d.module).zone (s.ms.get e.chain).state
    let c := ceilingStage request (s.thermalCeiling d a) (s.mismatchCeiling e.chain d.rated) d.rated
    let l := slewStage (s.ge.slew.get e.chain) d.rise c.1 c.2
    let f := floorStage request d.floor l.1 (resolveForbid a.shed e.anchor) l.2
    { entry := e, desc := d, value := f.1, reason := f.2, forbid := resolveForbid a.shed e.anchor, logAlways := a.logAlways }
  | some r, _ => { entry := e, desc := d, value := .off, reason := r, forbid := false, logAlways := false }
  | none, .off => { entry := e, desc := d, value := .off, reason := .none, forbid := false, logAlways := false }

/-- Stages 1 to 6 of every entry in entry order; `earlier` are the chains named before (R9). -/
def State.stageEntries (s : State) : List Chain → List Entry → List Working
  | _, [] => []
  | earlier, e :: es => s.stageEntry earlier e :: s.stageEntries (e.chain :: earlier) es

/-! ### Current fitting (R17 to R19) -/

/-- The serving order (R17): anchors first, then the lower priority value, then the lower chain number. -/
def Working.before (a b : Working) : Bool :=
  if a.entry.anchor ≠ b.entry.anchor then a.entry.anchor
  else if a.desc.priority ≠ b.desc.priority then decide (a.desc.priority < b.desc.priority)
  else decide (a.entry.chain.val < b.entry.chain.val)

/-- Insert an entry at its place in the serving order. -/
def insertServing (w : Working) : List Working → List Working
  | [] => [w]
  | x :: xs => if x.before w then x :: insertServing w xs else w :: x :: xs

/-- The entries that take part in fitting, those not OFF, in serving order (R17). -/
def servingOrder : List Working → List Working
  | [] => []
  | w :: ws => if w.value = .off then servingOrder ws else insertServing w (servingOrder ws)

/-- Lower G in steps of 4, at most n of them, to the first value whose current fits (R18): the value reached, and
whether it fits. -/
def lowerToFit (current : Int → Int) (remaining : Int) : Nat → Int → Int × Bool
  | 0, g => (g, decide (current g ≤ remaining))
  | n + 1, g => if current g ≤ remaining then (g, true) else lowerToFit current remaining n (g - 4)

/-- How many steps of 4 keep G at or above the floor (R18): none when it is below the floor already. -/
def lowerSteps (g floor : Int) : Nat := (g - floor).toNat / 4

/-- The request of an entry that is not OFF. -/
def Entry.requestValue (e : Entry) : Int :=
  match e.request with
  | .on q => q
  | .off => -512

/-- One entry served (R18, R19): the entry after it, and the remaining current. -/
def State.serve (s : State) (w : Working) (remaining : Int) : Working × Int :=
  match w.value with
  | .off => (w, remaining)
  | .on g =>
    let current := fun x => s.evalRef w.desc.current x
    let fit := lowerToFit current remaining (lowerSteps g w.desc.floor) g
    if fit.2 then
      ({ w with value := .on fit.1, reason := if fit.1 = g then w.reason else .current }, remaining - current fit.1)
    else if w.forbid = false ∧ w.entry.anchor = false then ({ w with value := .off, reason := .shed }, remaining)
    else
      let hold := min w.desc.floor w.entry.requestValue
      ({ w with value := .on hold, reason := .floor }, max 0 (remaining - current hold))

/-- The entries served in turn (R17). -/
def State.serveAll (s : State) : List Working → Int → List Working
  | [], _ => []
  | w :: ws, remaining => (s.serve w remaining).1 :: s.serveAll ws (s.serve w remaining).2

/-- Current fitting across an order, the entries back in entry order. No two that take part share a chain (R17). -/
def State.fitCurrent (s : State) (ws : List Working) : List Working :=
  let served := s.serveAll (servingOrder ws) s.allowance
  ws.map fun w => if w.value = .off then w else (served.find? fun x => x.entry.chain == w.entry.chain).getD w

/-! ### Grants (R6, R7, R20) -/

/-- A governed entry: its final value and final reason, and whether its matched rule has log-always set. -/
structure Grant where
  entry : Entry
  value : Power
  reason : Reason
  logAlways : Bool
  deriving DecidableEq, Repr

/-- An entry is changed when its final value differs from its request (R20). -/
def Grant.changed (g : Grant) : Bool := g.value != g.entry.request

/-- The final outcome of an entry: reason NONE when it goes out at its request (R20). -/
def finalGrant (e : Entry) (value : Power) (reason : Reason) (logAlways : Bool) : Grant :=
  { entry := e, value := value, reason := if value = e.request then .none else reason, logAlways := logAlways }

/-- The governed grants of ACTIVE mode, also the would-be grants of MONITOR (R7, R8). -/
def State.activeGrants (s : State) (es : List Entry) : List Grant :=
  (s.fitCurrent (s.stageEntries [] es)).map fun w => finalGrant w.entry w.value w.reason w.logAlways

/-- One entry in FIXED mode (R6). -/
def fixedGrant (ceiling : Int) (earlier : List Chain) (e : Entry) : Grant :=
  match e.request with
  | .off => finalGrant e .off .none false
  | .on q =>
    if e.chain ∈ earlier then finalGrant e .off .duplicate false
    else finalGrant e (.on (min q ceiling)) .fixed false

/-- The entries of an order in FIXED mode, in entry order (R6). -/
def fixedGrants (ceiling : Int) : List Chain → List Entry → List Grant
  | _, [] => []
  | earlier, e :: es => fixedGrant ceiling earlier e :: fixedGrants ceiling (e.chain :: earlier) es

/-- The grants of an order in the mode in force: in MONITOR the would-be grants (R6, R7). -/
def State.grants (s : State) (es : List Entry) : List Grant :=
  match s.ge.mode with
  | .fixed => fixedGrants (s.param .fixedCeiling) [] es
  | .monitor => s.activeGrants es
  | .active => s.activeGrants es

/-- The outgoing power of a governed entry: the request in MONITOR, else the grant (section 1.2). -/
def outgoing (m : Mode) (g : Grant) : Power :=
  match m with
  | .monitor => g.entry.request
  | _ => g.value

/-! ### Output, records and notes (R21 to R24) -/

/-- The entry words of the changed entries, in entry order (R22). -/
def changedEntries (gs : List Grant) : List GrantEntry :=
  (gs.filter Grant.changed).map fun g => { chain := g.entry.chain, reason := g.reason, value := g.value }

/-- The slot number of an order (R171). -/
def slotNumber (payload : List Word) : Nat := bits (payload.getD 0 0) 0 10

/-- The frame-start flag of an order (R171). -/
def frameStart (payload : List Word) : Bool := bit (payload.getD 0 0) 10

/-- The governed frame: the duration and the power fields rewritten, the check word recomputed (R2, R171). -/
def governedFrame (f : Frame) (outs : List Power) : Frame :=
  madeFrame f.kind f.tag (rewriteOrderWord (f.payload.getD 0 0) :: rewriteEntries (readEntries (f.payload.drop 1)) outs)

/-- Queue a handled downstream frame for the transceiver-side output (R166). -/
def State.queueDown (f : Frame) (s : State) : State := s.withLi { s.li with downPath := s.li.downPath ++ [f] }

/-- The GRANT record of a reduced order (R22). -/
def State.grantRecord (slot : Nat) (gs : List Grant) (s : State) : State :=
  if gs.any Grant.changed then
    s.offerGrant (.grant (s.ge.mode == .monitor) slot (changedEntries gs) s.stamp) (gs.any Grant.logAlways)
  else s

/-- The GRANT NOTE of a reduced order, offered in FIXED and ACTIVE while the parameter is ON, and dropped when no place
would remain free (R23, R169). -/
def State.grantNote (slot : Nat) (gs : List Grant) (s : State) : State :=
  if gs.any Grant.changed = true ∧ s.ge.mode ≠ .monitor ∧ s.param .grantNotes = 1 ∧ s.notePlace = true then
    s.queueGov (.grantNote (Word.ofNatural slot :: (changedEntries gs).map GrantEntry.word))
  else s

/-- The SHED and FLOOR classes of an ACTIVE order (R24). -/
def State.shedFloorNotices (gs : List Grant) (s : State) : State :=
  if s.ge.mode = .active then
    let s1 := if gs.any (fun g => g.reason == .shed) then s.raise .shed else s
    if gs.any (fun g => g.reason == .floor) then s1.raise .floor else s1
  else s

/-! ### Accounting (R25 to R27) -/

/-- The share of a full-slot quantity that falls to a duration: floor(q × d / 14) (R25, R26). -/
def slotShare (q : Int) (duration : Nat) : Nat := (q * duration / 14).toNat

/-- The heat of one entry that goes out, added to its module's accumulator (R25). -/
def State.accountHeat (duration : Nat) (c : Chain) (p : Power) (s : State) : State :=
  match p with
  | .off => s
  | .on q =>
    let d := s.cb.activeBank.descriptor c
    if d.present then s.addHeat d.module (slotShare (s.evalRef d.heat q) duration) else s

/-- The heat of every entry, in entry order. -/
def State.accountHeats (duration : Nat) : List (Chain × Power) → State → State
  | [], s => s
  | (c, p) :: rest, s => State.accountHeats duration rest (s.accountHeat duration c p)

/-- The charge of one entry (R26). -/
def State.entryCharge (s : State) (duration : Nat) (c : Chain) (p : Power) : Nat :=
  match p with
  | .off => 0
  | .on q =>
    let d := s.cb.activeBank.descriptor c
    if d.present then slotShare (s.evalRef d.current q) duration else 0

/-- The charge of an order: the sum over its entries (R26). -/
def State.orderCharge (s : State) (duration : Nat) (outs : List (Chain × Power)) : Nat :=
  (outs.map fun x => s.entryCharge duration x.1 x.2).sum

/-- Fresh slew memories for the grants that are not OFF (R27). -/
def State.setSlews : List Grant → State → State
  | [], s => s
  | g :: gs, s =>
    match g.value with
    | .off => State.setSlews gs s
    | .on q => State.setSlews gs (s.setSlew g.entry.chain { last := q, valid := true, age := 0 })

/-- Slew memory is written in ACTIVE and MONITOR, not in FIXED (R27). -/
def State.accountSlew (gs : List Grant) (s : State) : State :=
  match s.ge.mode with
  | .fixed => s
  | _ => State.setSlews gs s

/-- A governed order makes the stream LIVE with quiet count 0 (R28). A tick already produced whose work GE has yet to
take does not count after it (R152). -/
def State.streamLive (s : State) : State :=
  (s.withGe { s.ge with stream := .live, quietCount := 0 }).withInHand
    { s.inHand with tick := { s.inHand.tick with ordered := s.inHand.tick.ge } }

/-! ### The whole order -/

/-- What remains of an order once its grants are fixed: output, record, note, notices, accounting, stream. -/
def State.settleOrder (f : Frame) (gs : List Grant) (s : State) : State :=
  let slot := slotNumber f.payload
  let duration := readDuration (f.payload.getD 0 0)
  let outs := gs.map fun g => (g.entry.chain, outgoing s.ge.mode g)
  let s1 := s.queueDown (governedFrame f (outs.map Prod.snd))
  let s2 := ((s1.grantRecord slot gs).grantNote slot gs).shedFloorNotices gs
  let s3 := (State.accountHeats duration outs s2).addCharge (s.orderCharge duration outs)
  (s3.accountSlew gs).streamLive

/-- A pending FRAME flip applied at a frame-start order (R29, R125). -/
def State.frameFlip (f : Frame) (s : State) : State :=
  if frameStart f.payload = true ∧ s.cb.flip = some .frame then s.applyFlip .frame else s

/-- GE governs a well-formed slot order whole, at its arrival (R3). -/
def State.govern (f : Frame) (s : State) : State :=
  let s0 := s.frameFlip f
  s0.settleOrder f (s0.grants (readEntries (f.payload.drop 1)))

end Sys2Proof.Machine
end

