-- ==== Sys2Proof/Machine/Links.lean ====
section
/-! DEFINITION. The Link Interface (chapter 10): the receivers, what LI does with a frame received whole in either
direction, and the two outputs. -/

namespace Sys2Proof.Machine

/-! ### The receivers (R165) -/

/-- The receiver of an incoming stream. -/
def LinkInterface.rx (l : LinkInterface) : Stream → RxState
  | .downstream => l.rxDown
  | .upstream => l.rxUp

/-- Store the receiver of an incoming stream. -/
def State.setRx (st : Stream) (r : RxState) (s : State) : State :=
  match st with
  | .downstream => s.withLi { s.li with rxDown := r }
  | .upstream => s.withLi { s.li with rxUp := r }

/-- The words a receiver holds of a frame not yet whole. -/
def RxState.words : RxState → List Word
  | .seeking => []
  | .inFrame ws => ws

/-- A frame may be received whole on a stream: no reset holds (R182), its payload has at most 31 words, and the words of
it that the receiver already holds are its first words (R165). -/
def State.receives (s : State) (st : Stream) (f : Frame) : Bool :=
  !s.held && decide (f.payload.length ≤ 31) && (s.li.rx st).words.isPrefixOf (frameWords f)

/-- A frame is received whole: the receiver returns to SEEKING and LI handles the frame (R165). -/
def State.onFrame (st : Stream) (f : Frame) (handle : State → State) (s : State) : State :=
  if s.receives st f then handle (s.setRx st .seeking) else s

/-! ### Downstream frames (R166, R167) -/

/-- A SLOT ORDER (R166): governed when its check and length are good, else sent as received with a LINK record. -/
def State.takeSlotOrder (f : Frame) (s : State) : State :=
  if checkGood f = false then (s.queueDown f).linkFault .check
  else if orderLengthGood f.payload.length = false then (s.queueDown f).linkFault .malformed
  else s.govern f

/-- A good GOVERNOR REQUEST by its payload (R173): the request code decides what RH carries out. -/
def State.serve1to11 (tag : BitVec 4) (low : BitVec 10) (args : List Word) (s : State) : Nat → Option State
  | 1 => some (s.request tag 1 low args identifyEffect)
  | 2 => some (s.request tag 2 low args (modeSetEffect args))
  | 3 => some (s.request tag 3 low args (paramWriteEffect args))
  | 4 => some (s.request tag 4 low args (paramReadEffect args))
  | 5 => some (s.request tag 5 low args (chainWriteEffect low args))
  | 6 => some (s.request tag 6 low args (ruleWriteEffect low args))
  | 7 => some (s.request tag 7 low args (headerWriteEffect low args))
  | 8 => some (s.request tag 8 low args copyEffect)
  | 9 => some (s.request tag 9 low args (flipEffect args))
  | 10 => some (s.request tag 10 low args flipCancelEffect)
  | 11 => some (s.request tag 11 low args (tableReadEffect args))
  | _ => none

/-- The codes 12 to 21. -/
def State.serve12to21 (tag : BitVec 4) (low : BitVec 10) (args : List Word) (s : State) : Nat → Option State
  | 12 => some (s.request tag 12 low args (curveOpenEffect args))
  | 13 => some (s.request tag 13 low args (curveDataEffect args))
  | 14 => some (s.request tag 14 low args (curveReadEffect args))
  | 15 => some (s.request tag 15 low args (mapWriteEffect args))
  | 16 => some (s.request tag 16 low args (mapReadEffect args))
  | 17 => some (s.request tag 17 low args (stateReadEffect args))
  | 18 => some (s.request tag 18 low args (logReadEffect args))
  | 19 => some (s.request tag 19 low args logFlushEffect)
  | 20 => some (s.request tag 20 low args (noticeClearEffect args))
  | 21 => some (s.softResetRequest tag low args)
  | _ => none

/-- A request whose code is undefined, or whose payload is empty (R173): dropped at a full queue, else answered with the
status alone. -/
def State.answerUnknown (tag : BitVec 4) (code : Nat) (st : Status) (s : State) : State :=
  if 4 ≤ s.li.insert.length then s.linkFault .droppedRequest else s.respond tag code (refuse st)

/-- RH's handling of a good GOVERNOR REQUEST (R167, R173). -/
def State.serveRequest (tag : BitVec 4) (payload : List Word) (s : State) : State :=
  match payload with
  | [] => s.answerUnknown tag 0 .format
  | w :: args =>
    match s.serve1to11 tag (BitVec.ofNat 10 (bits w 0 10)) args (bits w 10 6) with
    | some t => t
    | none =>
      match s.serve12to21 tag (BitVec.ofNat 10 (bits w 0 10)) args (bits w 10 6) with
      | some t => t
      | none => s.answerUnknown tag (bits w 10 6) .unknown

/-- A GOVERNOR REQUEST (R166): served when its check is good, else discarded with a LINK record. -/
def State.takeRequest (f : Frame) (s : State) : State :=
  if checkGood f then s.serveRequest f.tag f.payload else s.linkFault .check

/-- A downstream frame received whole, by its kind (R166). -/
def State.handleDown (f : Frame) (s : State) : State :=
  if f.kind = kindSlotOrder then s.takeSlotOrder f
  else if f.kind = kindRequest then s.takeRequest f
  else s.queueDown f

/-- An upstream frame received whole, by its kind (R168). -/
def State.handleUp (f : Frame) (s : State) : State :=
  if f.kind = kindTelemetry then s.takeTelemetry f f.payload.length else s.takeUpstream f

/-- A frame received whole on a stream. -/
def State.handleFrame (st : Stream) (f : Frame) (s : State) : State :=
  match st with
  | .downstream => s.handleDown f
  | .upstream => s.handleUp f

/-! ### One word received (R165) -/

/-- The payload length in the header of the words received. -/
def headerLength (ws : List Word) : Nat := bits (ws.getD 0 0) 7 5

/-- A word joins the words received: with the check word the frame is whole and is handled. -/
def State.joinWord (st : Stream) (ws : List Word) (s : State) : State :=
  if ws.length < headerLength ws + 2 then s.setRx st (.inFrame ws)
  else (s.setRx st .seeking).handleFrame st (frameOfWords ws)

/-- One word on an incoming stream (R165): in SEEKING an idle word is discarded and a word with reserved bits 0 is a
header; in IN_FRAME the word joins the frame. While a reset holds, every word is discarded (R182). -/
def State.receiveWord (st : Stream) (w : Word) (s : State) : State :=
  if s.held then s
  else
    match s.li.rx st with
    | .seeking => if bits w 0 3 = 0 then s.joinWord st [w] else s
    | .inFrame ws => s.joinWord st (ws ++ [w])

/-! ### The outputs (R166, R170) -/

/-- Begin to send a frame. -/
def beginSending (f : Frame) : Option Sending := some { frame := f, sent := 0 }

/-- The upstream arbiter begins the oldest transit frame, which frees its place (R168, R170). -/
def State.sendTransit (f : Frame) (rest : List Frame) (s : State) : State :=
  s.withLi { s.li with transit := rest, outUp := beginSending f, lastServed := .transit }

/-- The upstream arbiter begins the oldest frame of the insert queue; the departure is reported to NU (R169, R170). -/
def State.sendInsert (g : GovFrame) (rest : List GovFrame) (s : State) : State :=
  (s.withLi { s.li with insert := rest, outUp := beginSending g.toFrame, lastServed := .insert }).noticeDeparture

/-- The modem-side output becomes free and the arbiter chooses (R170): the one source that holds a frame, or of two the
one not served last; with neither, idle words. -/
def State.upstreamOutput (s : State) : State :=
  match s.li.transit, s.li.insert with
  | [], [] => s.withLi { s.li with outUp := none }
  | f :: fs, [] => s.sendTransit f fs
  | [], g :: gs => s.sendInsert g gs
  | f :: fs, g :: gs =>
    match s.li.lastServed with
    | .transit => s.sendInsert g gs
    | .insert => s.sendTransit f fs

/-- The transceiver-side output becomes free and begins the next handled frame in arrival order (R166). -/
def State.downstreamOutput (s : State) : State :=
  match s.li.downPath with
  | [] => s.withLi { s.li with outDown := none }
  | f :: fs => s.withLi { s.li with downPath := fs, outDown := beginSending f }

/-! ### The rows that are frames, words and outputs -/

/-- The frame of a row that fixes its kind. -/
def bodyFrame (kind : BitVec 4) (b : FrameBody) : Frame := { kind := kind, tag := b.tag, payload := b.payload, check := b.check }

/-- SLOT_ORDER (R1). -/
def execSlotOrder (b : FrameBody) (s : State) : Host.Outcome State Fault Refusal :=
  .next (s.onFrame .downstream (bodyFrame kindSlotOrder b) (State.takeSlotOrder (bodyFrame kindSlotOrder b)))

/-- TELEMETRY (R130, R131): a frame received whole, or the handling of the frame in hand goes on, by a number of words. -/
def execTelemetry (p : TelemetryPart) (count : Nat) (s : State) : Host.Outcome State Fault Refusal :=
  match p with
  | .frame b => .next (s.onFrame .upstream (bodyFrame kindTelemetry b) (State.takeTelemetry (bodyFrame kindTelemetry b) count))
  | .further => .next (if s.held then s else s.observeFurther count)

/-- UPSTREAM_TRANSIT_FRAME (R168). -/
def execUpstreamTransitFrame (f : Frame) (s : State) : Host.Outcome State Fault Refusal :=
  .next (s.onFrame .upstream f (State.handleUp f))

/-- DOWNSTREAM_TRANSIT_FRAME (R166). -/
def execDownstreamTransitFrame (f : Frame) (s : State) : Host.Outcome State Fault Refusal :=
  .next (s.onFrame .downstream f (State.handleDown f))

/-- REQUEST_DISCARDED (R166). -/
def execRequestDiscarded (b : FrameBody) (s : State) : Host.Outcome State Fault Refusal :=
  .next (s.onFrame .downstream (bodyFrame kindRequest b) (State.takeRequest (bodyFrame kindRequest b)))

/-- REQUEST_DROPPED (R167). -/
def execRequestDropped (tag : BitVec 4) (payload : List Word) (s : State) : Host.Outcome State Fault Refusal :=
  .next (s.onFrame .downstream (requestFrame tag payload) (State.serveRequest tag payload))

/-- UNKNOWN_REQUEST (R173). -/
def execUnknownRequest (tag : BitVec 4) (payload : List Word) (s : State) : Host.Outcome State Fault Refusal :=
  .next (s.onFrame .downstream (requestFrame tag payload) (State.serveRequest tag payload))

/-- HEADER_WORD_RECEIVED (R165). -/
def execHeaderWordReceived (st : Stream) (w : Word) (s : State) : Host.Outcome State Fault Refusal :=
  .next (s.receiveWord st w)

/-- UPSTREAM_OUTPUT_FRAME (R170). While a reset holds the outputs send idle words (R182). -/
def execUpstreamOutputFrame (s : State) : Host.Outcome State Fault Refusal :=
  .next (if s.held then s else s.upstreamOutput)

/-- DOWNSTREAM_OUTPUT_FRAME (R166). While a reset holds the outputs send idle words (R182). -/
def execDownstreamOutputFrame (s : State) : Host.Outcome State Fault Refusal :=
  .next (if s.held then s else s.downstreamOutput)

end Sys2Proof.Machine
end

