-- ==== Sys2Proof/Machine/RequestRows.lean ====
section
/-! DEFINITION. The rows that are governor requests: each receives its GOVERNOR REQUEST frame, good check word and all,
and hands it to RH (chapter 11). -/

namespace Sys2Proof.Machine

/-- The operand words of a PARAM WRITE of one parameter: its id, then the row's words. -/
def paramArgs (p : ParamId) (args : List Word) : List Word := Word.ofNatural p.id :: args

/-- A row's request frame: the request word with the row's code, then the operand words, under a good check word
(section 11.1, R171). -/
def rowFrame (code : Nat) (r : Request) : Frame := requestFrame r.tag (requestPayload code r.low r.args)

/-- A row's request received whole (R166) and taken by RH (R167). -/
def State.rowRequest (code : Nat) (r : Request) (effect : State → State × Reply) (s : State) : State :=
  s.onFrame .downstream (rowFrame code r) (State.request r.tag code r.low r.args effect)

/-- IDENTIFY (R175). -/
def execIdentify (r : Request) (s : State) : Host.Outcome State Fault Refusal :=
  .next (s.rowRequest 1 r identifyEffect)

/-- MODE_SET (R176). -/
def execModeSet (r : Request) (s : State) : Host.Outcome State Fault Refusal :=
  .next (s.rowRequest 2 r (modeSetEffect r.args))

/-- PARAM_WRITE (R177). -/
def execParamWrite (r : Request) (s : State) : Host.Outcome State Fault Refusal :=
  .next (s.rowRequest 3 r (paramWriteEffect r.args))

/-- TICK_CODE_WRITE (R147). -/
def execTickCodeWrite (r : Request) (s : State) : Host.Outcome State Fault Refusal :=
  .next (s.rowRequest 3 { r with args := paramArgs .tickCode r.args } (tickCodeEffect r.args))

/-- BOARD_FALLBACK_WRITE (R33). -/
def execBoardFallbackWrite (r : Request) (s : State) : Host.Outcome State Fault Refusal :=
  .next (s.rowRequest 3 { r with args := paramArgs .boardFallback r.args } (boardFallbackEffect r.args))

/-- NOTICE_ENABLE_WRITE (R162). -/
def execNoticeEnableWrite (r : Request) (s : State) : Host.Outcome State Fault Refusal :=
  .next (s.rowRequest 3 { r with args := paramArgs .noticeEnable r.args } (noticeEnableEffect r.args))

/-- NOTICE_LATCH_WRITE (R162). -/
def execNoticeLatchWrite (r : Request) (s : State) : Host.Outcome State Fault Refusal :=
  .next (s.rowRequest 3 { r with args := paramArgs .noticeLatch r.args } (noticeLatchEffect r.args))

/-- PARAM_READ (R178). -/
def execParamRead (r : Request) (s : State) : Host.Outcome State Fault Refusal :=
  .next (s.rowRequest 4 r (paramReadEffect r.args))

/-- CHAIN_WRITE (R115). -/
def execChainWrite (r : Request) (s : State) : Host.Outcome State Fault Refusal :=
  .next (s.rowRequest 5 r (chainWriteEffect r.low r.args))

/-- RULE_WRITE (R115). -/
def execRuleWrite (r : Request) (s : State) : Host.Outcome State Fault Refusal :=
  .next (s.rowRequest 6 r (ruleWriteEffect r.low r.args))

/-- HEADER_WRITE (R115). -/
def execHeaderWrite (r : Request) (s : State) : Host.Outcome State Fault Refusal :=
  .next (s.rowRequest 7 r (headerWriteEffect r.low r.args))

/-- COPY (R119). -/
def execCopy (r : Request) (s : State) : Host.Outcome State Fault Refusal :=
  .next (s.rowRequest 8 r copyEffect)

/-- FLIP (R121). -/
def execFlip (r : Request) (s : State) : Host.Outcome State Fault Refusal :=
  .next (s.rowRequest 9 r (flipEffect r.args))

/-- FLIP_CANCEL (R124). -/
def execFlipCancel (r : Request) (s : State) : Host.Outcome State Fault Refusal :=
  .next (s.rowRequest 10 r flipCancelEffect)

/-- TABLE_READ (R120). -/
def execTableRead (r : Request) (s : State) : Host.Outcome State Fault Refusal :=
  .next (s.rowRequest 11 r (tableReadEffect r.args))

/-- CURVE_OPEN (R96). -/
def execCurveOpen (r : Request) (s : State) : Host.Outcome State Fault Refusal :=
  .next (s.rowRequest 12 r (curveOpenEffect r.args))

/-- CURVE_DATA (R98). -/
def execCurveData (r : Request) (s : State) : Host.Outcome State Fault Refusal :=
  .next (s.rowRequest 13 r (curveDataEffect r.args))

/-- CURVE_READ (R106). -/
def execCurveRead (r : Request) (s : State) : Host.Outcome State Fault Refusal :=
  .next (s.rowRequest 14 r (curveReadEffect r.args))

/-- MAP_WRITE (R133). -/
def execMapWrite (r : Request) (s : State) : Host.Outcome State Fault Refusal :=
  .next (s.rowRequest 15 r (mapWriteEffect r.args))

/-- MAP_READ (R134). -/
def execMapRead (r : Request) (s : State) : Host.Outcome State Fault Refusal :=
  .next (s.rowRequest 16 r (mapReadEffect r.args))

/-- STATE_READ (R179). -/
def execStateRead (r : Request) (s : State) : Host.Outcome State Fault Refusal :=
  .next (s.rowRequest 17 r (stateReadEffect r.args))

/-- LOG_READ (R158). -/
def execLogRead (r : Request) (s : State) : Host.Outcome State Fault Refusal :=
  .next (s.rowRequest 18 r (logReadEffect r.args))

/-- LOG_FLUSH (R159). -/
def execLogFlush (r : Request) (s : State) : Host.Outcome State Fault Refusal :=
  .next (s.rowRequest 19 r logFlushEffect)

/-- NOTICE_CLEAR (R163). -/
def execNoticeClear (r : Request) (s : State) : Host.Outcome State Fault Refusal :=
  .next (s.rowRequest 20 r (noticeClearEffect r.args))

/-- SOFT_RESET (R183). -/
def execSoftReset (r : Request) (s : State) : Host.Outcome State Fault Refusal :=
  .next (s.onFrame .downstream (rowFrame 21 r) (State.softResetRequest r.tag r.low r.args))

end Sys2Proof.Machine
end

