-- ==== Sys2Proof/Machine/Dispatch.lean ====
section
/-! DEFINITION. One arm per command, each one call of its meaning. -/

namespace Sys2Proof.Machine

def exec (i : Instr) (s : State) : Host.Outcome State Fault Refusal :=
  match i with
  | .slotOrder b => Sys2Proof.Machine.execSlotOrder b s
  | .telemetry p count => Sys2Proof.Machine.execTelemetry p count s
  | .upstreamTransitFrame f => Sys2Proof.Machine.execUpstreamTransitFrame f s
  | .downstreamTransitFrame f => Sys2Proof.Machine.execDownstreamTransitFrame f s
  | .requestDiscarded b => Sys2Proof.Machine.execRequestDiscarded b s
  | .requestDropped tag payload => Sys2Proof.Machine.execRequestDropped tag payload s
  | .identify r => Sys2Proof.Machine.execIdentify r s
  | .modeSet r => Sys2Proof.Machine.execModeSet r s
  | .paramWrite r => Sys2Proof.Machine.execParamWrite r s
  | .tickCodeWrite r => Sys2Proof.Machine.execTickCodeWrite r s
  | .boardFallbackWrite r => Sys2Proof.Machine.execBoardFallbackWrite r s
  | .noticeEnableWrite r => Sys2Proof.Machine.execNoticeEnableWrite r s
  | .noticeLatchWrite r => Sys2Proof.Machine.execNoticeLatchWrite r s
  | .paramRead r => Sys2Proof.Machine.execParamRead r s
  | .chainWrite r => Sys2Proof.Machine.execChainWrite r s
  | .ruleWrite r => Sys2Proof.Machine.execRuleWrite r s
  | .headerWrite r => Sys2Proof.Machine.execHeaderWrite r s
  | .copy r => Sys2Proof.Machine.execCopy r s
  | .flip r => Sys2Proof.Machine.execFlip r s
  | .flipCancel r => Sys2Proof.Machine.execFlipCancel r s
  | .tableRead r => Sys2Proof.Machine.execTableRead r s
  | .curveOpen r => Sys2Proof.Machine.execCurveOpen r s
  | .curveData r => Sys2Proof.Machine.execCurveData r s
  | .curveRead r => Sys2Proof.Machine.execCurveRead r s
  | .mapWrite r => Sys2Proof.Machine.execMapWrite r s
  | .mapRead r => Sys2Proof.Machine.execMapRead r s
  | .stateRead r => Sys2Proof.Machine.execStateRead r s
  | .logRead r => Sys2Proof.Machine.execLogRead r s
  | .logFlush r => Sys2Proof.Machine.execLogFlush r s
  | .noticeClear r => Sys2Proof.Machine.execNoticeClear r s
  | .softReset r => Sys2Proof.Machine.execSoftReset r s
  | .tick phase blocks => Sys2Proof.Machine.execTick phase blocks s
  | .slewExpiry c => Sys2Proof.Machine.execSlewExpiry c s
  | .streamQuiet => Sys2Proof.Machine.execStreamQuiet s
  | .observationStale k => Sys2Proof.Machine.execObservationStale k s
  | .windowRotation => Sys2Proof.Machine.execWindowRotation s
  | .recovery c => Sys2Proof.Machine.execRecovery c s
  | .parking c => Sys2Proof.Machine.execParking c s
  | .parkRelease c => Sys2Proof.Machine.execParkRelease c s
  | .upstreamOutputFrame => Sys2Proof.Machine.execUpstreamOutputFrame s
  | .downstreamOutputFrame => Sys2Proof.Machine.execDownstreamOutputFrame s
  | .powerOnReset => Sys2Proof.Machine.execPowerOnReset s
  | .supplyOutOfRange => Sys2Proof.Machine.execSupplyOutOfRange s
  | .pinResetAssert => Sys2Proof.Machine.execPinResetAssert s
  | .pinResetRelease => Sys2Proof.Machine.execPinResetRelease s
  | .refclkStop => Sys2Proof.Machine.execRefclkStop s
  | .refclkResume => Sys2Proof.Machine.execRefclkResume s
  | .unknownRequest tag payload => Sys2Proof.Machine.execUnknownRequest tag payload s
  | .headerWordReceived st w => Sys2Proof.Machine.execHeaderWordReceived st w s

end Sys2Proof.Machine
end

