-- ==== Sys2Proof/Machine/Idle.lean ====
section
/-! DEFINITION. What happens while no command waits: one cycle of the reference clock (R146) and one word on each output
(R165, R170). -/

namespace Sys2Proof.Machine

/-- One more word of an output in progress; with its last word the output is free. -/
def advance (o : Option Sending) : Option Sending :=
  match o with
  | none => none
  | some x => if (frameWords x.frame).length ≤ x.sent + 1 then none else some { x with sent := x.sent + 1 }

/-- The word an output sends next: of its frame, or the idle word when it has nothing to send (R165). -/
def outputWord (o : Option Sending) : Word :=
  match o with
  | none => idleWord
  | some x => (frameWords x.frame).getD x.sent idleWord

/-- One word on each output. -/
def State.sendWords (s : State) : State :=
  s.withLi { s.li with
    outUp := advance s.li.outUp
    outDown := advance s.li.outDown
    wordUp := outputWord s.li.outUp
    wordDown := outputWord s.li.outDown }

/-- One base millisecond (R146): the divider counts it, and at the tick period a tick is produced and delivered. -/
def State.millisecond (s : State) : State :=
  if 2 ^ s.paramNat .tickCode ≤ s.tg.divider + 1 then s.produceTick.settleTick
  else s.withTg { s.tg with prescaler := 0, divider := s.tg.divider + 1 }

/-- One cycle of the 19.2 MHz reference, of which 19,200 make a base millisecond (R146). -/
def State.referenceCycle (s : State) : State :=
  if s.pins.refclkAbsent then s
  else if 19200 ≤ s.tg.prescaler + 1 then s.millisecond
  else s.withTg { s.tg with prescaler := s.tg.prescaler + 1 }

/-- What one step does on an empty queue (assumption log entry 2): with no command waiting, a telemetry frame in hand is
ended, whether or not the reference clock runs (R146), and the clocks run on. Nothing moves while a reset holds (R182). -/
def State.clockCycle (s : State) : State := if s.held then s else s.settleIntake.sendWords.referenceCycle

end Sys2Proof.Machine
end

