-- ==== Sys2Proof/Safety.lean ====
section
/-! DEFINITION. What counts as a sound state of the part: the laws the manual says hold at all times, each a predicate
over the state, and the readings that the statements are written in. -/

namespace Sys2Proof.Safety

open Sys2Proof.Machine

/-! ### Laws that hold at all times -/

/-- Every parameter stands within its range (section 11.4). -/
abbrev paramsInRange (s : State) : Prop := ∀ p ∈ ParamId.all, p.range.1 ≤ s.param p ∧ s.param p ≤ p.range.2

/-- The zone thresholds rise (R47), and the severe threshold lies below the detune threshold (R68). -/
abbrev thresholdsOrdered (s : State) : Prop :=
  s.param .warm < s.param .hot ∧ s.param .hot < s.param .critical ∧ s.param .severeThreshold < s.param .detuneThreshold

/-- The parameter store is sound. -/
abbrev paramsSound (s : State) : Prop := paramsInRange s ∧ thresholdsOrdered s

/-- The rises and the heat accumulators stand within their ranges (R31, R34). -/
abbrev thermalSound (s : State) : Prop :=
  ∀ m ∈ [Module.a, Module.b], (s.te.get m).rise ≤ 1023 ∧ (s.te.get m).heat ≤ 1048575

/-- The window sum equals the sum of the sixteen buckets, each bucket is within its bound, and between ticks the counter
lies within 1..255 (R76, R78). -/
abbrev windowSound (s : State) : Prop :=
  s.sa.windowSum = s.sa.buckets.toList.sum ∧ (∀ i : Fin 16, s.sa.buckets.get i ≤ bucketMax) ∧ 1 ≤ s.sa.counter ∧ s.sa.counter ≤ 255

/-- The fill equals the total length of the records held and never exceeds 512, every record is 1 to 6 words long, and
the loss data stand within their ranges (R154, R155). -/
abbrev logSound (s : State) : Prop :=
  s.ol.fill = recordsLength s.ol.store ∧ s.ol.fill ≤ 512 ∧ (∀ r ∈ s.ol.store, 1 ≤ r.length ∧ r.length ≤ 6)
    ∧ s.ol.lost ≤ 65535 ∧ s.ol.firstLoss ≤ 65535

/-- The insert queue holds at most 4 frames, at most 3 of them other than responses and at most one a NOTICE, and the
transit buffer at most 2 (R168, R169, section 9.6). -/
abbrev queuesSound (s : State) : Prop :=
  s.li.insert.length ≤ 4 ∧ (s.li.insert.filter fun g => !g.isResponse).length ≤ 3
    ∧ (s.li.insert.filter GovFrame.isNotice).length ≤ 1 ∧ s.li.transit.length ≤ 2

/-- One slot against the load cursor: a LOADING slot is the one that the cursor names, and has received as many values as
the cursor counts, 0..16; no other slot is named; and a VALID slot holds 17 values that pass the tests of its kind
(R91, R100, R101). -/
def slotSound (cursor : Option LoadCursor) (n : Fin 16) : CurveSlot → Bool
  | .empty => cursor.map LoadCursor.slot != some n
  | .loading d => cursor == some { slot := n, cursor := d.ys.length } && decide (d.ys.length ≤ 16)
  | .valid d => cursor.map LoadCursor.slot != some n && d.ys.length == 17 && yRangeGood d.kind d.ys && shapeGood d.kind d.ys
  | .invalid _ _ => cursor.map LoadCursor.slot != some n

/-- The sixteen slots are sound, so that at most one is LOADING (R91). -/
abbrev curvesSound (s : State) : Prop := ∀ n : Fin 16, slotSound s.cs.cursor n (s.cs.slots.get n) = true

/-- Every curve slot referenced in force by the active bank, and by the standby bank while a flip is pending, is VALID
and of the kind its reference requires (R104). -/
abbrev referencesSound (s : State) : Prop :=
  (∀ r ∈ s.cb.activeBank.refs, s.cs.satisfies r = true)
    ∧ (s.cb.flip.isSome = true → ∀ r ∈ s.cb.standbyBank.refs, s.cs.satisfies r = true)

/-- While the mode is ACTIVE, the active bank holds a present descriptor, and so does the standby bank while a flip is
pending (R4). -/
abbrev activeSound (s : State) : Prop :=
  s.ge.mode = .active →
    s.cb.activeBank.hasPresent = true ∧ (s.cb.flip.isSome = true → s.cb.standbyBank.hasPresent = true)

/-- The floor of every descriptor of a bank lies at or below its rated max, and its fields within their ranges (R110). -/
abbrev bankSound (b : Bank) : Prop :=
  ∀ c : Chain, (b.descriptor c).floor ≤ (b.descriptor c).rated ∧ -200 ≤ (b.descriptor c).floor ∧ (b.descriptor c).rated ≤ 140
    ∧ 1 ≤ (b.descriptor c).rise ∧ (b.descriptor c).rise ≤ 32 ∧ (b.descriptor c).priority ≤ 3

/-- Both banks are sound (R110). -/
abbrev banksSound (s : State) : Prop := bankSound s.cb.bank0 ∧ bankSound s.cb.bank1

/-- A chain's mismatch record: the counts within their ranges (section 3.1), and by its state: in PARKED the confirm
count, improving flag and recovery count are 0 and the park timer is at least 1; the park timer runs in PARKED alone, the
severe timer in SEVERE alone; MATCHED is not improving and counts no recovery; the confirm count is 0 in SEVERE; the probe
flag stands in DETUNED alone (R12, R57 to R63, R65). -/
def chainSound (r : ChainRecord) : Bool :=
  r.confirm ≤ 14 && r.recovery ≤ 254 && r.severe ≤ 254 && r.park ≤ 255 &&
    match r.state with
    | .matched => !r.improving && r.recovery == 0 && r.severe == 0 && r.park == 0 && !r.probe
    | .detuned => r.severe == 0 && r.park == 0
    | .severe => r.confirm == 0 && r.park == 0 && !r.probe
    | .parked => r.confirm == 0 && !r.improving && r.recovery == 0 && r.severe == 0 && 1 ≤ r.park && !r.probe

/-- The four mismatch records are sound. -/
abbrev mismatchSound (s : State) : Prop := ∀ c : Chain, chainSound (s.ms.get c) = true

/-- While a reset holds, the blocks stand at their reset values and nothing is queued or being sent (R182). -/
abbrev heldSound (s : State) : Prop :=
  s.held = true → s.hardReset = s

/-! ### What a request finds and leaves -/

/-- RH takes a row's request (R165, R167, R173): no reset holds, the frame fits and is in step with what the receiver
holds, fewer than 4 frames stand in the insert queue, and the structure is sound. -/
abbrev takes (code : Nat) (r : Request) (s : State) : Prop :=
  s.held = false ∧ r.args.length ≤ 30 ∧ (s.li.rxDown.words).isPrefixOf (frameWords (rowFrame code r)) = true
    ∧ s.li.insert.length ≤ 3 ∧ formGood code r.low = true ∧ lengthGood code r.args = true

/-- A downstream frame is received whole: no reset holds, it fits, and the words the receiver holds are its first. -/
abbrev arrivesDown (f : Frame) (s : State) : Prop :=
  s.held = false ∧ f.payload.length ≤ 31 ∧ (s.li.rxDown.words).isPrefixOf (frameWords f) = true

/-- An upstream frame is received whole. -/
abbrev arrivesUp (f : Frame) (s : State) : Prop :=
  s.held = false ∧ f.payload.length ≤ 31 ∧ (s.li.rxUp.words).isPrefixOf (frameWords f) = true

/-- The state after a frame or request that leaves the downstream receiver SEEKING and places one RESPONSE, all else as
in the given state (R171, R174). -/
def answered (tag : BitVec 4) (code : Nat) (st : Status) (more : Bool) (words : List Word) (s : State) : State :=
  { s with li := { s.li with
      rxDown := .seeking
      insert := s.li.insert ++ [.response tag (statusWord code st more :: words)] } }

/-- A notice class is pending, or stands in a NOTICE that waits in the insert queue. -/
def raised (c : NoticeClass) (s : State) : Prop :=
  s.nu.pending &&& c.bit ≠ 0 ∨ ∃ d, GovFrame.notice d ∈ s.li.insert ∧ d &&& c.bit ≠ 0

/-- No event has begun and not ended: no block owes tick work and no telemetry frame is between two deliveries. -/
abbrev nothingInHand (s : State) : Prop := s.inHand = InHand.reset

/-- The downstream receiver back in SEEKING, as it is once a frame has been received whole (R165). -/
def heard (s : State) : State := s.setRx .downstream .seeking

/-- A state that differs from an earlier one at most in the log, the Notice Unit and the insert queue. -/
def logsOnly (s t : State) : Prop :=
  t = { s with ol := t.ol, nu := t.nu, li := { s.li with insert := t.li.insert } }

/-- The newest record of the log. -/
def newest (s : State) : Option Record := s.ol.store.getLast?

/-- The values that every reset gives to every block but OL, NU, LI and the cause record (R30, R52, R70, R88, R108, R128,
R144, R153 and the defaults of section 11.4); nothing is in hand. -/
def resetValues (t : State) : Prop :=
  t.rh.params = defaultParams
    ∧ t.ge.mode = .fixed ∧ (∀ c : Chain, t.ge.slew.get c = { last := 0, valid := false, age := 0 }) ∧ t.ge.stream = .quiet
    ∧ t.ge.quietCount = 0
    ∧ t.te.a = { rise := 0, heat := 0, zone := .cool } ∧ t.te.b = { rise := 0, heat := 0, zone := .cool }
    ∧ (∀ c : Chain, t.ms.get c = ChainRecord.reset)
    ∧ (∀ i : Fin 16, t.sa.buckets.get i = 0) ∧ t.sa.windowSum = 0 ∧ t.sa.counter = 64 ∧ t.sa.charge = .ok
    ∧ (∀ n : Fin 16, t.cs.slots.get n = .empty) ∧ t.cs.cursor = none
    ∧ t.cb = { bank0 := Bank.empty, bank1 := Bank.empty, active := 0, flip := none }
    ∧ (∀ n : Fin 16, t.ti.map.get n = { kind := none, offset := 0 })
    ∧ (∀ k ∈ obsAll, t.obsOf k = { value := 0, fresh := 0, saturated := false })
    ∧ t.tg = { prescaler := 0, divider := 0, counter := 0 }
    ∧ nothingInHand t

/-! ### Commands and the frames they are -/

/-- The request code and the request, all its argument words included, of a row that is a governor request. -/
def requestOf : Instr → Option (Nat × Request)
  | .slotOrder _ => none
  | .telemetry _ _ => none
  | .upstreamTransitFrame _ => none
  | .downstreamTransitFrame _ => none
  | .requestDiscarded _ => none
  | .requestDropped _ _ => none
  | .identify r => some (1, r)
  | .modeSet r => some (2, r)
  | .paramWrite r => some (3, r)
  | .tickCodeWrite r => some (3, { r with args := paramArgs .tickCode r.args })
  | .boardFallbackWrite r => some (3, { r with args := paramArgs .boardFallback r.args })
  | .noticeEnableWrite r => some (3, { r with args := paramArgs .noticeEnable r.args })
  | .noticeLatchWrite r => some (3, { r with args := paramArgs .noticeLatch r.args })
  | .paramRead r => some (4, r)
  | .chainWrite r => some (5, r)
  | .ruleWrite r => some (6, r)
  | .headerWrite r => some (7, r)
  | .copy r => some (8, r)
  | .flip r => some (9, r)
  | .flipCancel r => some (10, r)
  | .tableRead r => some (11, r)
  | .curveOpen r => some (12, r)
  | .curveData r => some (13, r)
  | .curveRead r => some (14, r)
  | .mapWrite r => some (15, r)
  | .mapRead r => some (16, r)
  | .stateRead r => some (17, r)
  | .logRead r => some (18, r)
  | .logFlush r => some (19, r)
  | .noticeClear r => some (20, r)
  | .softReset r => some (21, r)
  | .tick _ _ => none
  | .slewExpiry _ => none
  | .streamQuiet => none
  | .observationStale _ => none
  | .windowRotation => none
  | .recovery _ => none
  | .parking _ => none
  | .parkRelease _ => none
  | .upstreamOutputFrame => none
  | .downstreamOutputFrame => none
  | .powerOnReset => none
  | .supplyOutOfRange => none
  | .pinResetAssert => none
  | .pinResetRelease => none
  | .refclkStop => none
  | .refclkResume => none
  | .unknownRequest _ _ => none
  | .headerWordReceived _ _ => none

/-- The stream and the frame of a row that is one whole frame. A telemetry row is one when none of its readings is left
for later. -/
def frameOf (i : Instr) : Option (Stream × Frame) :=
  match i with
  | .slotOrder b => some (.downstream, bodyFrame kindSlotOrder b)
  | .telemetry (.frame b) now => if b.payload.length ≤ now then some (.upstream, bodyFrame kindTelemetry b) else none
  | .upstreamTransitFrame f => some (.upstream, f)
  | .downstreamTransitFrame f => some (.downstream, f)
  | .requestDiscarded b => some (.downstream, bodyFrame kindRequest b)
  | .requestDropped tag payload => some (.downstream, requestFrame tag payload)
  | .unknownRequest tag payload => some (.downstream, requestFrame tag payload)
  | j => (requestOf j).map fun x => (.downstream, rowFrame x.1 x.2)

/-- Commands carried out one after the other; the first stop is the outcome. -/
def execAll : List Instr → State → Host.Outcome State Fault Refusal
  | [], s => .next s
  | i :: is, s =>
    match exec i s with
    | .next t => execAll is t
    | .fault f => .fault f
    | .refused r => .refused r

/-- A number of steps; the first stop is the outcome. -/
def steps : Nat → State → Host.Outcome State Fault Refusal
  | 0, s => .next s
  | n + 1, s =>
    match step s with
    | .next t => steps n t
    | .fault f => .fault f
    | .refused r => .refused r

/-! ### Accounting (R25, R26) -/

/-- The heat that the entries of an order add to one module: the share of the duration of each entry that goes out and
whose present descriptor names the module (R25). -/
def orderHeat (s : State) (m : Module) (duration : Nat) (outs : List (Chain × Power)) : Nat :=
  (outs.map fun x =>
    match x.2 with
    | .off => 0
    | .on q =>
      if (s.cb.activeBank.descriptor x.1).present = true ∧ (s.cb.activeBank.descriptor x.1).module = m then
        slotShare (s.evalRef (s.cb.activeBank.descriptor x.1).heat q) duration
      else 0).sum

/-- The charge that the entries of an order add to the open bucket: the share of the duration of each entry that goes out,
at the current its present descriptor's curve gives, each share rounded down before the sum (R26). -/
def orderLoad (s : State) (duration : Nat) (outs : List (Chain × Power)) : Nat :=
  (outs.map fun x =>
    match x.2 with
    | .off => 0
    | .on q =>
      if (s.cb.activeBank.descriptor x.1).present = true then
        slotShare (s.evalRef (s.cb.activeBank.descriptor x.1).current q) duration
      else 0).sum

/-- The rule action that governs an entry as the state stands (R10). -/
def actionOf (s : State) (e : Entry) : Action :=
  s.cb.activeBank.matchRule e (s.te.get (s.cb.activeBank.descriptor e.chain).module).zone (s.ms.get e.chain).state

/-- The least of an entry's thermal, mismatch and rated ceilings (R11 to R13). -/
def leastCeiling (s : State) (e : Entry) : Int :=
  min (s.thermalCeiling (s.cb.activeBank.descriptor e.chain) (actionOf s e))
    (min (s.mismatchCeiling e.chain (s.cb.activeBank.descriptor e.chain).rated) (s.cb.activeBank.descriptor e.chain).rated)

/-- The six tests of a valid rule accept an entry as the state stands (R10, R113). -/
def governs (s : State) (e : Entry) (r : Rule) : Prop :=
  r.valid = true ∧ r.chains.getLsbD e.chain.val = true ∧ r.bands.getLsbD e.band = true
    ∧ r.waveforms.getLsbD e.waveform = true
    ∧ r.zones.getLsbD (s.te.get (s.cb.activeBank.descriptor e.chain).module).zone.code = true
    ∧ r.mismatches.getLsbD (s.ms.get e.chain).state.code = true
    ∧ (r.anchor = .any ∨ (r.anchor = .anchor ∧ e.anchor = true) ∨ (r.anchor = .nonAnchor ∧ e.anchor = false))

/-! ### Current fitting (R17 to R19) -/

/-- No two entries that take part in fitting share a chain (R17). -/
def oneWorkingPerChain (ws : List Working) : Prop :=
  ws.Pairwise fun x y => x.value ≠ .off → y.value ≠ .off → x.entry.chain ≠ y.entry.chain

/-- The serving order (R17): anchors before non-anchors, then the lower priority, then the lower chain number. -/
def servedBefore (x y : Working) : Prop :=
  (x.entry.anchor = true ∧ y.entry.anchor = false)
    ∨ (x.entry.anchor = y.entry.anchor
      ∧ (x.desc.priority < y.desc.priority ∨ (x.desc.priority = y.desc.priority ∧ x.entry.chain < y.entry.chain)))

/-- One entry served (R18, R19): `w` at value g of a request q, with the current `left`, becomes `v` and leaves `after`.
It takes the first value in steps of 4, not below its floor, whose current fits; where none fits it is shed or held. -/
def fits (current : Int → Int) (w : Working) (g q left : Int) (v : Working) (after : Int) : Prop :=
  (∀ n : Nat, (n = 0 ∨ w.desc.floor ≤ g - 4 * n) → current (g - 4 * n) ≤ left →
      (∀ k : Nat, k < n → left < current (g - 4 * k)) →
      v = { w with value := .on (g - 4 * n), reason := if n = 0 then w.reason else .current }
        ∧ after = left - current (g - 4 * n))
    ∧ ((∀ n : Nat, (n = 0 ∨ w.desc.floor ≤ g - 4 * n) → left < current (g - 4 * n)) →
      (w.forbid = false → w.entry.anchor = false → v = { w with value := .off, reason := .shed } ∧ after = left)
      ∧ (w.forbid = true ∨ w.entry.anchor = true →
        v = { w with value := .on (min w.desc.floor q), reason := .floor }
          ∧ after = max 0 (left - current (min w.desc.floor q))))

end Sys2Proof.Safety
end

