-- ==== Sys2Proof/Certificates/Slice0/Obligations.lean ====
section
/-! DEFINITION. The statements about the NT4210 that are to be proved. -/

open Sys2Proof Sys2Proof.Machine Sys2Proof.Safety

/-! ### The queue, the clock and reset -/

/-- One step takes the command at the front of the queue and carries it out on the state with the queue's rest
(assumption log entry 1). -/
def Obligations.StepTakesTheFrontCommand : Prop :=
  ∀ (c : Instr) (cs : List Instr) (s : State), step (s.withPending (c :: cs)) = exec c (s.withPending cs)

/-- On an empty queue a step ends a telemetry frame in hand, sends one word on each output and counts one reference cycle:
the model's choice (assumption log entries 2 and 4), with the divisions of R146. At the full period a tick is produced and
every block has taken it, as by a TICK of every block in some order. An output in progress sends the next word of its frame
and is free after the last, and one with nothing to send sends the idle word 0xFFFF (R165). -/
def Obligations.EmptyQueueRunsOneReferenceCycle : Prop :=
  (∀ s : State, s.pending = [] →
    (s.held = true → step s = .next s)
    ∧ (s.held = false → s.pins.refclkAbsent = true → step s = .next s.settleIntake.sendWords)
    ∧ (s.held = false → s.pins.refclkAbsent = false → s.tg.prescaler + 1 < 19200 →
        step s = .next (s.settleIntake.sendWords.withTg { s.tg with prescaler := s.tg.prescaler + 1 }))
    ∧ (s.held = false → s.pins.refclkAbsent = false → 19200 ≤ s.tg.prescaler + 1 →
        s.tg.divider + 1 < 2 ^ s.paramNat .tickCode →
        step s = .next (s.settleIntake.sendWords.withTg { s.tg with prescaler := 0, divider := s.tg.divider + 1 }))
    ∧ (s.held = false → s.pins.refclkAbsent = false → 19200 ≤ s.tg.prescaler + 1 →
        2 ^ s.paramNat .tickCode ≤ s.tg.divider + 1 →
        ∃ t, step s = .next t ∧ t.tg = { prescaler := 0, divider := 0, counter := (s.tg.counter + 1) % 16777216 }
          ∧ (∃ bs, (∀ b : TickBlock, b ∈ bs) ∧ exec (.tick .produce bs) s.settleIntake.sendWords = .next t)
          ∧ t.inHand.tick = InHand.reset.tick ∧ t.rh = s.rh ∧ t.cs = s.cs ∧ t.pins = s.pins ∧ t.pending = []))
  ∧ ∀ s : State,
      (s.li.outUp = none → s.sendWords.li.wordUp = 0xFFFF) ∧ (s.li.outDown = none → s.sendWords.li.wordDown = 0xFFFF)
      ∧ (∀ x, s.li.outUp = some x → x.sent < (frameWords x.frame).length →
          (frameWords x.frame)[x.sent]? = some s.sendWords.li.wordUp)
      ∧ (∀ x, s.li.outDown = some x → x.sent < (frameWords x.frame).length →
          (frameWords x.frame)[x.sent]? = some s.sendWords.li.wordDown)
      ∧ (s.li.outUp = none → s.sendWords.li.outUp = none) ∧ (s.li.outDown = none → s.sendWords.li.outDown = none)
      ∧ (∀ x, s.li.outUp = some x → s.sendWords.li.outUp
          = if (frameWords x.frame).length ≤ x.sent + 1 then none else some { frame := x.frame, sent := x.sent + 1 })
      ∧ (∀ x, s.li.outDown = some x → s.sendWords.li.outDown
          = if (frameWords x.frame).length ≤ x.sent + 1 then none else some { frame := x.frame, sent := x.sent + 1 })
      ∧ s.sendWords = { s with li := { s.li with
          outUp := s.sendWords.li.outUp
          outDown := s.sendWords.li.outDown
          wordUp := s.sendWords.li.wordUp
          wordDown := s.sendWords.li.wordDown } }
      ∧ (s.inHand.intake = none → s.settleIntake = s)
      ∧ ∀ (f : Frame) (rest : List Word), s.held = false → s.inHand.intake = some { frame := f, rest := rest } →
          exec (.telemetry .further rest.length) s = .next s.settleIntake

/-- From a prescaler and divider at 0, with no command and the reference clock present, no tick is produced for 19,200
times 2^code cycles less one, and the last of them produces one tick, from which both start again at 0 (R146). That a step
on an empty queue is one cycle of the reference clock is the model's choice (assumption log entry 2). -/
def Obligations.TicksComeEveryPeriod : Prop :=
  ∀ s : State, s.pending = [] → s.held = false → s.pins.refclkAbsent = false → s.tg.prescaler = 0 → s.tg.divider = 0 →
    (∀ n, n < 19200 * 2 ^ s.paramNat .tickCode → ∃ t, steps n s = .next t ∧ t.tg.counter = s.tg.counter)
    ∧ ∃ t, steps (19200 * 2 ^ s.paramNat .tickCode) s = .next t
        ∧ t.tg = { prescaler := 0, divider := 0, counter := (s.tg.counter + 1) % 16777216 }

/-- What the part holds right after the power-on reset: the values of R30, R52, R70, R88, R108, R128, R144, R153, R164
and R172, the 36 defaults of section 11.4, one RESET record (R160), cause POWER_ON and count 0 (R181), and what follows
from them: both modules at 180, the allowance at 1200, no slot pinned. -/
def Obligations.ResetLeavesTheStatedValues : Prop :=
  resetValues State.reset
    ∧ ParamId.all.map State.reset.param
      = [92, 8, 4, 0, 2, 64, 64, 32, 240, 320, 380, 12, 180, 40, 16, 8, 40, 3, 16, 128, 64, 8, 24, 40]
        ++ [1200, 900, 64, 36000000, 32, 4, 1, 384, 0, 8, 0, 0]
    ∧ State.reset.nu = { pending := 0, owed := false }
    ∧ State.reset.li.rxDown = .seeking ∧ State.reset.li.rxUp = .seeking ∧ State.reset.li.downPath = []
    ∧ State.reset.li.transit = [] ∧ State.reset.li.insert = [] ∧ State.reset.li.outUp = none
    ∧ State.reset.li.outDown = none ∧ State.reset.li.lastServed = .transit ∧ State.reset.li.wordUp = 0xFFFF
    ∧ State.reset.li.wordDown = 0xFFFF
    ∧ State.reset.ol.store = [.reset .powerOn 0] ∧ State.reset.ol.fill = 1 ∧ State.reset.ol.lost = 0
    ∧ State.reset.ol.firstLoss = 0 ∧ State.reset.ol.grantCounter = 0 ∧ (∀ k : Fin 12, State.reset.ol.readingCounters.get k = 0)
    ∧ State.reset.rh.cause = .powerOn ∧ State.reset.rh.softCount = 0
    ∧ State.reset.thetaEst .a = 180 ∧ State.reset.thetaEst .b = 180 ∧ State.reset.allowance = 1200
    ∧ (∀ n : Fin 16, State.reset.pinned n = false) ∧ State.reset.pending = []

/-- The reset state keeps every law that the next statements say each step keeps. -/
def Obligations.ResetStateIsSound : Prop :=
  paramsSound State.reset ∧ windowSound State.reset ∧ thermalSound State.reset ∧ banksSound State.reset
    ∧ logSound State.reset ∧ queuesSound State.reset ∧ curvesSound State.reset ∧ referencesSound State.reset
    ∧ activeSound State.reset ∧ mismatchSound State.reset ∧ heldSound State.reset

/-! ### Laws that every step keeps -/

/-- The log's fill equals the lengths of the records held and never exceeds 512, whatever step is taken (R154, R155). -/
def Obligations.LogStaysSound : Prop :=
  ∀ s t : State, logSound s → step s = .next t → logSound t

/-- The insert queue holds at most 4 frames, at most 3 of them other than responses and at most one a NOTICE, and the
transit buffer at most 2, whatever step is taken (R168, R169, section 9.6). -/
def Obligations.QueuesStayWithinTheirPlaces : Prop :=
  ∀ s t : State, queuesSound s → step s = .next t → queuesSound t

/-- Every parameter stays within its range and the tied thresholds in their order (R47, R68, section 11.4), and the
window sum equals the sum of its buckets, each within its bound, with the counter in 1..255 (R76, R78). -/
def Obligations.ParametersAndWindowStaySound : Prop :=
  ∀ s t : State, paramsSound s → windowSound s → step s = .next t → paramsSound t ∧ windowSound t

/-- Each rise stays within 0..1023 and each accumulator within 0..1,048,575 (R31, R34), and in both banks each floor
stays at or below its rated max, and floor, rated max, rise step and priority within the ranges of section 6.1 (R110). -/
def Obligations.ThermalAndBankRecordsStayInRange : Prop :=
  ∀ s t : State, thermalSound s → banksSound s → step s = .next t → thermalSound t ∧ banksSound t

/-- At most the slot of the load cursor is LOADING, with as many values as the cursor counts, and every VALID slot holds
17 values that pass the tests of its kind (R91, R100, R101); and every slot in force in the active bank, and in the standby
bank while a flip is pending, stays VALID and of the kind its reference requires (R104). -/
def Obligations.CurvesAndReferencesStaySound : Prop :=
  (∀ s t : State, curvesSound s → step s = .next t → curvesSound t)
    ∧ ∀ s t : State, referencesSound s → step s = .next t → referencesSound t

/-- While the mode is ACTIVE the active bank holds a present descriptor, and so does the standby bank of a pending flip
(R4, R121, R176). -/
def Obligations.ActiveModeKeepsAPresentChain : Prop :=
  ∀ s t : State, activeSound s → step s = .next t → activeSound t

/-- With the parameters in range (which ParametersAndWindowStaySound keeps), the counts of each mismatch record stay
within the ranges of section 3.1, and its counts and flags fit its state, the probe flag standing in DETUNED alone (R12,
R57 to R63, R65). Of a record's items this is about its confirm and recovery counts, its severe and park timers and its
flags; the last RL is no part of it. -/
def Obligations.MismatchRecordsFitTheirState : Prop :=
  ∀ s t : State, paramsInRange s → mismatchSound s → step s = .next t → mismatchSound t

/-- While a reset holds, every block stands at its reset values and nothing is received, queued, sent or in hand
(R182). -/
def Obligations.HeldPartStandsAtItsResetValues : Prop :=
  ∀ s t : State, heldSound s → step s = .next t → heldSound t

/-! ### Frames and words -/

/-- A frame that the governor writes has a good check word, whatever it carries (R165, R171); and any frame is read from
its words as it was written, with its length in the header and the reserved bits 0: every kind, tag, payload of 0 to 31
words and check word (section 10.1). A RESPONSE carries the tag of its request, a NOTICE and a GRANT NOTE tag 0, and a status
word the code, the status and the MORE flag, its other bits 0 (R171, R173). -/
def Obligations.FramesAreWrittenAndReadWhole : Prop :=
  (∀ (kind tag : BitVec 4) (payload : List Word), checkGood (madeFrame kind tag payload) = true)
  ∧ (∀ f : Frame, f.payload.length ≤ 31 →
      frameOfWords (frameWords f) = f ∧ headerLength (frameWords f) = f.payload.length
        ∧ bits (headerWord f.kind f.tag f.payload) 0 3 = 0)
  ∧ (∀ (tag : BitVec 4) (classes : ClassSet) (payload : List Word),
      [Status.ok, .clamped, .format, .unknown, .range, .state, .busy, .notReady, .length, .inUse].map Status.code = List.range 10
      ∧ (GovFrame.response tag payload).toFrame = madeFrame 13 tag payload
      ∧ (GovFrame.notice classes).toFrame = madeFrame 14 0 [classes.setWidth 16]
      ∧ (GovFrame.grantNote payload).toFrame = madeFrame 11 0 payload)
  ∧ ∀ (code : Nat) (st : Status) (more : Bool), code ≤ 63 →
      bits (statusWord code st more) 10 6 = code ∧ bits (statusWord code st more) 6 4 = st.code
        ∧ bits (statusWord code st more) 1 5 = 0 ∧ bit (statusWord code st more) 0 = more

/-- A governed order keeps its kind, tag, length, slot number, frame-start flag, reserved bits and every word of an
entry but the power field; its duration field holds the duration read as 1..14, its power fields the outgoing powers,
and its check word is good (R2, R171). An order has as many entries as pairs of words after its first, and each entry
holds the fields of its two words, its request read as OFF at −512 and clamped to −200..+140 otherwise (R2, R171). -/
def Obligations.GovernedFramesKeepAllButPowersAndDuration : Prop :=
  (∀ (f g : Frame) (outs : List Power), orderLengthGood f.payload.length = true →
    outs.length = (readEntries (f.payload.drop 1)).length →
    (∀ q : Int, Power.on q ∈ outs → -200 ≤ q ∧ q ≤ 140) → g = governedFrame f outs →
    g.kind = f.kind ∧ g.tag = f.tag ∧ g.payload.length = f.payload.length ∧ checkGood g = true
      ∧ slotNumber g.payload = slotNumber f.payload ∧ frameStart g.payload = frameStart f.payload
      ∧ bits (g.payload.getD 0 0) 15 1 = bits (f.payload.getD 0 0) 15 1
      ∧ bits (g.payload.getD 0 0) 11 4 = readDuration (f.payload.getD 0 0)
      ∧ ∀ k p, outs[k]? = some p →
          g.payload[2 * k + 1]? = f.payload[2 * k + 1]?
          ∧ bits (g.payload.getD (2 * k + 2) 0) 10 6 = bits (f.payload.getD (2 * k + 2) 0) 10 6
          ∧ requestedPower (g.payload.getD (2 * k + 2) 0) = p)
  ∧ (∀ (ws : List Word) (n : Nat), ws.length = 2 * n →
      (readEntries ws).length = n
      ∧ ∀ (k : Nat) (e : Entry) (x y : Word), (readEntries ws)[k]? = some e → ws[2 * k]? = some x → ws[2 * k + 1]? = some y →
          e.head = x ∧ e.tail = y ∧ e.chain.val = bits x 14 2 ∧ e.band = bits x 10 4 ∧ e.waveform = bits x 8 2
          ∧ e.anchor = bit x 7 ∧ e.request = requestedPower y)
  ∧ ∀ (y : Word) (q : Int), (q - bits y 0 10) % 1024 = 0 → -512 ≤ q → q ≤ 511 →
      (q = -512 → requestedPower y = .off) ∧ (q ≠ -512 → requestedPower y = .on (max (-200) (min 140 q)))

/-- Every row that is a frame has the effect of its words received one by one by a receiver in SEEKING (R165): nothing
before the last word, and with it the handling of the frame. That one row is a whole frame, and that a telemetry frame
completed word by word is handled at once, are the model's choices (assumption log entries 1 and 14). -/
def Obligations.FrameRowsAreTheirWords : Prop :=
  ∀ (i : Instr) (st : Stream) (f : Frame) (s : State), frameOf i = some (st, f) → f.payload.length ≤ 31 →
    s.held = false → s.li.rx st = .seeking →
    exec i s = execAll ((frameWords f).map (Instr.headerWordReceived st)) s

/-- One word received (R165): an idle word is discarded; a header begins a frame; a payload word joins it; with the
check word the frame is whole and handled, and the receiver is SEEKING. While a reset holds the word is discarded
(R182). That the row takes any word in any state of the receiver, and that a telemetry frame it completes is handled at
once, are the model's choices (assumption log entry 14). -/
def Obligations.OneWordIsReceived : Prop :=
  ∀ (st : Stream) (w : Word) (s : State),
    (s.held = true → exec (.headerWordReceived st w) s = .next s)
    ∧ (s.held = false → s.li.rx st = .seeking → bits w 0 3 ≠ 0 → exec (.headerWordReceived st w) s = .next s)
    ∧ (s.held = false → s.li.rx st = .seeking → bits w 0 3 = 0 →
        exec (.headerWordReceived st w) s = .next (s.setRx st (.inFrame [w])))
    ∧ (∀ ws, s.held = false → s.li.rx st = .inFrame ws → (ws ++ [w]).length < headerLength (ws ++ [w]) + 2 →
        exec (.headerWordReceived st w) s = .next (s.setRx st (.inFrame (ws ++ [w]))))
    ∧ (∀ ws, s.held = false → s.li.rx st = .inFrame ws → headerLength (ws ++ [w]) + 2 ≤ (ws ++ [w]).length →
        exec (.headerWordReceived st w) s = .next ((s.setRx st .seeking).handleFrame st (frameOfWords (ws ++ [w]))))

/-- A downstream frame that is neither a slot order nor a governor request is queued as received, whatever its check
(R166); an upstream frame other than TELEMETRY enters a transit buffer with a place, and at a full one is dropped, with a
LINK record OVERRUN, the newest of a log in OVERWRITE, and the LINK class (R168). -/
def Obligations.TransitFramesPassAsReceived : Prop :=
  ∀ (f : Frame) (s : State),
    (arrivesDown f s → f.kind ≠ kindSlotOrder → f.kind ≠ kindRequest →
      exec (.downstreamTransitFrame f) s
        = .next { s with li := { s.li with rxDown := .seeking, downPath := s.li.downPath ++ [f] } })
    ∧ (arrivesUp f s → f.kind ≠ kindTelemetry → s.inHand.intake = none → s.li.transit.length < 2 →
      exec (.upstreamTransitFrame f) s
        = .next { s with li := { s.li with rxUp := .seeking, transit := s.li.transit ++ [f] } })
    ∧ (arrivesUp f s → f.kind ≠ kindTelemetry → s.inHand.intake = none → 2 ≤ s.li.transit.length →
      ∃ t, exec (.upstreamTransitFrame f) s = .next t ∧ t = (s.setRx .upstream .seeking).linkFault .overrun
        ∧ (s.param .logMode = 1 → newest t = some (.link .overrun s.stamp)) ∧ raised .link t
        ∧ logsOnly (s.setRx .upstream .seeking) t)

/-- A slot order with a bad check, or with a good check and a length not of the form 1 + 2n, is sent on as received with
one LINK record, CHECK or MALFORMED, the newest of a log in OVERWRITE, and the LINK class; the check is tested first (R1,
R166). The Grant Engine, the estimates, the window and the banks do not change. -/
def Obligations.FaultyOrdersPassUngoverned : Prop :=
  ∀ (b : FrameBody) (s : State), arrivesDown (bodyFrame kindSlotOrder b) s →
    (checkGood (bodyFrame kindSlotOrder b) = false →
      ∃ t, exec (.slotOrder b) s = .next t
        ∧ t = ((heard s).queueDown (bodyFrame kindSlotOrder b)).linkFault .check
        ∧ t.li.downPath = s.li.downPath ++ [bodyFrame kindSlotOrder b]
        ∧ (s.param .logMode = 1 → newest t = some (.link .check s.stamp)) ∧ raised .link t
        ∧ logsOnly ((heard s).queueDown (bodyFrame kindSlotOrder b)) t)
    ∧ (checkGood (bodyFrame kindSlotOrder b) = true → (∀ n, n ≤ 4 → b.payload.length ≠ 1 + 2 * n) →
      ∃ t, exec (.slotOrder b) s = .next t
        ∧ t = ((heard s).queueDown (bodyFrame kindSlotOrder b)).linkFault .malformed
        ∧ t.li.downPath = s.li.downPath ++ [bodyFrame kindSlotOrder b]
        ∧ (s.param .logMode = 1 → newest t = some (.link .malformed s.stamp)) ∧ raised .link t
        ∧ logsOnly ((heard s).queueDown (bodyFrame kindSlotOrder b)) t)

/-- A GOVERNOR REQUEST with a bad check is discarded with a LINK record CHECK (R166), and one with a good check that finds
4 frames in the insert queue is dropped with a LINK record DROPPED_REQUEST, whatever its row and its words (R167): no
response, and no change but the record, the newest of a log in OVERWRITE, and the LINK class. -/
def Obligations.RequestsWithoutAnAnswer : Prop :=
  (∀ (b : FrameBody) (s : State), arrivesDown (bodyFrame kindRequest b) s → checkGood (bodyFrame kindRequest b) = false →
    exec (.requestDiscarded b) s = .next ((heard s).linkFault .check))
  ∧ (∀ (tag : BitVec 4) (payload : List Word) (s : State), arrivesDown (requestFrame tag payload) s →
    4 ≤ s.li.insert.length → exec (.requestDropped tag payload) s = .next ((heard s).linkFault .droppedRequest))
  ∧ (∀ (i : Instr) (code : Nat) (r : Request) (s : State), requestOf i = some (code, r) → arrivesDown (rowFrame code r) s →
    4 ≤ s.li.insert.length → exec i s = .next ((heard s).linkFault .droppedRequest))
  ∧ (∀ (e : LinkError) (s : State), logsOnly s (s.linkFault e)
    ∧ (s.param .logMode = 1 → newest (s.linkFault e) = some (.link e s.stamp)) ∧ raised .link (s.linkFault e)
    ∧ (s.linkFault e).li.insert.length ≤ s.li.insert.length + 1
    ∧ (4 ≤ s.li.insert.length → (s.linkFault e).li.insert.length = s.li.insert.length))

/-- A request whose code lies outside 1..21 is answered UNKNOWN with its code echoed, and one with an empty payload is
answered FORMAT with code 0; neither changes anything else (R173). -/
def Obligations.UnknownRequestsAreAnswered : Prop :=
  (∀ (tag : BitVec 4) (w : Word) (args : List Word) (s : State), arrivesDown (requestFrame tag (w :: args)) s →
    s.li.insert.length ≤ 3 → bits w 10 6 = 0 ∨ 21 < bits w 10 6 →
    exec (.unknownRequest tag (w :: args)) s = .next (answered tag (bits w 10 6) .unknown false [] s))
  ∧ (∀ (tag : BitVec 4) (s : State), arrivesDown (requestFrame tag []) s → s.li.insert.length ≤ 3 →
    exec (.unknownRequest tag []) s = .next (answered tag 0 .format false [] s))

/-- A request of any row with a reserved bit set, a form that its code does not use, or a payload length that the table of
section 11.1 does not give its code, is answered FORMAT and changes nothing else (R173). The forms and lengths of that table,
and no others, pass. -/
def Obligations.UnsoundRequestsAreAnsweredFormat : Prop :=
  (∀ (code : Nat) (low : BitVec 10) (args : List Word),
    (formGood code low = true ↔ low.toNat % 256 = 0
      ∧ (low.toNat / 256 = 0 ∨ (low.toNat / 256 = 1 ∧ (code = 5 ∨ code = 6 ∨ code = 7))))
    ∧ (code ∈ [1, 8, 10, 19, 21] → (lengthGood code args = true ↔ args.length + 1 = 1))
    ∧ (code ∈ [2, 4, 9, 14, 17, 18, 20] → (lengthGood code args = true ↔ args.length + 1 = 2))
    ∧ (lengthGood 16 args = true ↔ args.length + 1 = 3) ∧ (lengthGood 3 args = true ↔ args.length + 1 = 4)
    ∧ (code ∈ [11, 12] → (lengthGood code args = true ↔ args.length + 1 = 5))
    ∧ (lengthGood 7 args = true ↔ args.length + 1 = 6) ∧ (lengthGood 5 args = true ↔ args.length + 1 = 12)
    ∧ (lengthGood 6 args = true ↔ args.length + 1 = 14) ∧ (args.length + 1 ≤ 31 → lengthGood 13 args = true)
    ∧ (lengthGood 15 args = true ↔ 3 ≤ args.length + 1 ∧ args.length + 1 = 3 + (arg args 1).toNat))
  ∧ ∀ (i : Instr) (code : Nat) (r : Request) (s : State), requestOf i = some (code, r) → arrivesDown (rowFrame code r) s →
    s.li.insert.length ≤ 3 →
    (r.low.toNat % 256 ≠ 0 ∨ 2 ≤ r.low.toNat / 256 ∨ (r.low.toNat / 256 = 1 ∧ code ≠ 5 ∧ code ≠ 6 ∧ code ≠ 7)
      ∨ (code ∈ [1, 8, 10, 19, 21] ∧ r.args.length + 1 ≠ 1)
      ∨ (code ∈ [2, 4, 9, 14, 17, 18, 20] ∧ r.args.length + 1 ≠ 2)
      ∨ (code = 16 ∧ r.args.length + 1 ≠ 3) ∨ (code = 3 ∧ r.args.length + 1 ≠ 4)
      ∨ (code ∈ [11, 12] ∧ r.args.length + 1 ≠ 5) ∨ (code = 7 ∧ r.args.length + 1 ≠ 6)
      ∨ (code = 5 ∧ r.args.length + 1 ≠ 12) ∨ (code = 6 ∧ r.args.length + 1 ≠ 14)
      ∨ (code = 15 ∧ (r.args.length + 1 < 3 ∨ r.args.length + 1 ≠ 3 + (arg r.args 1).toNat))) →
    exec i s = .next (answered r.tag code .format false [] s)

/-- The outputs (R166, R170): with one source the modem-side output begins its oldest frame, with two that of the source
not served last, with none it is idle; a frame that leaves the insert queue is reported to NU. The transceiver-side output
begins the oldest handled frame. That an output row ends a frame in progress, and that a frame begins with no word sent,
are the model's choices (assumption log entries 13 and 24). -/
def Obligations.OutputsSendInTurn : Prop :=
  ∀ s : State, s.held = false →
    (s.li.transit = [] → s.li.insert = [] →
      exec .upstreamOutputFrame s = .next { s with li := { s.li with outUp := none } })
    ∧ (∀ f fs, s.li.transit = f :: fs → s.li.insert = [] ∨ s.li.lastServed = .insert →
      exec .upstreamOutputFrame s
        = .next { s with li := { s.li with transit := fs, outUp := some { frame := f, sent := 0 }, lastServed := .transit } })
    ∧ (∀ g gs, s.li.insert = g :: gs → s.li.transit = [] ∨ s.li.lastServed = .transit →
      exec .upstreamOutputFrame s
        = .next (s.withLi { s.li with
            insert := gs
            outUp := some { frame := g.toFrame, sent := 0 }
            lastServed := .insert }).noticeDeparture)
    ∧ (s.li.downPath = [] → exec .downstreamOutputFrame s = .next { s with li := { s.li with outDown := none } })
    ∧ (∀ f fs, s.li.downPath = f :: fs →
      exec .downstreamOutputFrame s
        = .next { s with li := { s.li with downPath := fs, outDown := some { frame := f, sent := 0 } } })

/-! ### Notices and the log -/

/-- A class that a block raises is afterwards pending, or stands in a NOTICE that waits, in either latch mode and
whatever is enabled; a raise changes only the pending set, the owed flag and the insert queue (R161, R162). In
NON_LATCHED mode a raise and a departure run the test: the classes pending and enabled join the NOTICE that waits, or,
with none waiting and 0 to 2 frames in the queue, a new one, and leave the pending set; else they stay pending. In
LATCHED mode they stay pending: a raise of an enabled class not yet pending joins or places a NOTICE, or sets notice
owed, and a departure meets what is owed; that it then joins a NOTICE that waits is the model's reading (assumption log
entry 15). The ten classes are the bits 0 to 9 of a class set in the order of section 9.6. -/
def Obligations.RaisedClassesAreNotLost : Prop :=
  [NoticeClass.zone, .mismatch, .shed, .floor, .charge, .watermark, .loss, .flip, .stale, .link].map NoticeClass.bit
    = (List.range 10).map (fun k => BitVec.ofNat 10 (2 ^ k))
  ∧ (∀ (c : NoticeClass) (s : State),
    raised c (s.raise c)
      ∧ s.raise c = { s with nu := (s.raise c).nu, li := { s.li with insert := (s.raise c).li.insert } }
      ∧ (s.li.insert.length ≤ 2 → (s.raise c).li.insert.length ≤ s.li.insert.length + 1)
      ∧ (3 ≤ s.li.insert.length → (s.raise c).li.insert.length = s.li.insert.length)
      ∧ (s.param .noticeLatch ≠ 1 →
          s.raise c = (s.withNu { s.nu with pending := s.nu.pending ||| c.bit }).noticeTest ∧ s.noticeDeparture = s.noticeTest)
      ∧ (s.param .noticeLatch = 1 → s.nu.pending &&& c.bit ≠ 0 → s.raise c = s)
      ∧ (s.param .noticeLatch = 1 → s.nu.pending &&& c.bit = 0 → s.enableSet &&& c.bit = 0 →
          s.raise c = s.withNu { s.nu with pending := s.nu.pending ||| c.bit })
      ∧ (s.param .noticeLatch = 1 → s.nu.pending &&& c.bit = 0 → s.enableSet &&& c.bit ≠ 0 →
          s.raise c = (s.withNu { s.nu with pending := s.nu.pending ||| c.bit }).noticeCall))
  ∧ ∀ (s : State) (d : ClassSet) (merged : List GovFrame), d = s.nu.pending &&& s.enableSet →
      merged = s.li.insert.map (fun g => match g with | .notice x => .notice (x ||| d) | f => f) →
      (d = 0 → s.noticeTest = s)
      ∧ (d ≠ 0 → (∃ x, GovFrame.notice x ∈ s.li.insert) →
          s.noticeTest
            = { s with nu := { s.nu with pending := s.nu.pending &&& ~~~d }, li := { s.li with insert := merged } })
      ∧ (d ≠ 0 → (∀ x, GovFrame.notice x ∉ s.li.insert) → s.li.insert.length ≤ 2 →
          s.noticeTest = { s with
            nu := { s.nu with pending := s.nu.pending &&& ~~~d }
            li := { s.li with insert := s.li.insert ++ [.notice d] } })
      ∧ ((∀ x, GovFrame.notice x ∉ s.li.insert) → 3 ≤ s.li.insert.length →
          s.noticeTest = s ∧ s.noticeCall = s.withNu { s.nu with owed := true })
      ∧ ((∃ x, GovFrame.notice x ∈ s.li.insert) → s.noticeCall = { s with li := { s.li with insert := merged } })
      ∧ ((∀ x, GovFrame.notice x ∉ s.li.insert) → s.li.insert.length ≤ 2 →
          s.noticeCall = { s with li := { s.li with insert := s.li.insert ++ [.notice d] } })
      ∧ (s.param .noticeLatch = 1 →
          (s.nu.owed = false → s.noticeDeparture = s)
          ∧ (s.nu.owed = true → (∃ x, GovFrame.notice x ∈ s.li.insert) →
              s.noticeDeparture
                = { s with nu := { s.nu with owed := false }, li := { s.li with insert := merged } })
          ∧ (s.nu.owed = true → (∀ x, GovFrame.notice x ∉ s.li.insert) → s.li.insert.length ≤ 2 →
              s.noticeDeparture = { s with
                nu := { s.nu with owed := false }
                li := { s.li with insert := if d = 0 then s.li.insert else s.li.insert ++ [.notice d] } })
          ∧ (s.nu.owed = true → (∀ x, GovFrame.notice x ∉ s.li.insert) → 3 ≤ s.li.insert.length → s.noticeDeparture = s))

/-- A record handed to a sound log (R155): one that fits is the newest record; one that does not is discarded and
counted in STOP, and in OVERWRITE removes the fewest oldest records that make room, each counted. The count saturates at
65,535, and the first loss of a run takes the stamp and raises LOSS. A fill that reaches the watermark from below it
raises WATERMARK (R156). The tick count of a record is the low 16 bits of the tick counter (R149). An offer counts
modulo 128, and is handed on when the count is a multiple of 2^n, or forced; a READING record is not offered while
reading log is OFF (R157). -/
def Obligations.RecordsEnterTheLogByItsMode : Prop :=
  (∀ (r : Record) (s : State), logSound s → r.length ≤ 6 →
    (s.ol.fill + r.length ≤ 512 →
      (s.record r).ol = { s.ol with store := s.ol.store ++ [r], fill := s.ol.fill + r.length })
    ∧ (512 < s.ol.fill + r.length → s.param .logMode = 0 →
      (s.record r).ol = { s.ol with
        lost := min 65535 (s.ol.lost + 1), firstLoss := if s.ol.lost = 0 then s.stamp else s.ol.firstLoss })
    ∧ (512 < s.ol.fill + r.length → s.param .logMode = 1 →
      ∃ gone kept, s.ol.store = gone ++ kept ∧ gone ≠ [] ∧ recordsLength kept + r.length ≤ 512
        ∧ (∀ pre x, gone = pre ++ [x] → 512 < x.length + recordsLength kept + r.length)
        ∧ (s.record r).ol = { s.ol with
            store := kept ++ [r], fill := recordsLength kept + r.length,
            lost := min 65535 (s.ol.lost + gone.length),
            firstLoss := if s.ol.lost = 0 then s.stamp else s.ol.firstLoss })
    ∧ (s.ol.lost = 0 → 0 < (s.record r).ol.lost → raised .loss (s.record r))
    ∧ ((s.ol.fill : Int) < s.param .watermark → s.param .watermark ≤ (s.record r).ol.fill → raised .watermark (s.record r))
    ∧ logsOnly s (s.record r) ∧ s.stamp = s.tg.counter % 65536)
  ∧ (∀ (r : Record) (forced : Bool) (s t : State),
      t = s.withOl { s.ol with grantCounter := (s.ol.grantCounter + 1) % 128 } →
      (forced = true ∨ s.ol.grantCounter % 2 ^ s.paramNat .grantDownsample = 0 → s.offerGrant r forced = t.record r)
      ∧ (forced = false → s.ol.grantCounter % 2 ^ s.paramNat .grantDownsample ≠ 0 → s.offerGrant r forced = t))
  ∧ ∀ (k : ObsKind) (v : Int) (n : Nat) (s : State), n = s.ol.readingCounters.get (obsIndex k) →
      (s.param .readingLog = 8 → s.offerReading k v = s)
      ∧ (s.param .readingLog ≠ 8 → ∃ t, t = s.withOl { s.ol with readingCounters := t.ol.readingCounters }
        ∧ t.ol.readingCounters.get (obsIndex k) = (n + 1) % 128
        ∧ (∀ j, j ≠ k → t.ol.readingCounters.get (obsIndex j) = s.ol.readingCounters.get (obsIndex j))
        ∧ s.offerReading k v = if n % 2 ^ s.paramNat .readingLog = 0 then t.record (.reading k v s.stamp) else t)

/-- LOG READ (R158): a maximum outside 1..30 is refused RANGE; else the longest run of whole oldest records within the
maximum leaves the log, in store order, with MORE while any remain, and a read that empties the log with 4 words to spare
adds a TIME record and clears the loss data. The words returned are those of the records one after the other, each record as
many words as its length; of fields within their ranges, each bit and word of each kind of record gives the field that the
table of section 9.2 names for it, and its other bits are 0. -/
def Obligations.LogReadDrainsWholeRecords : Prop :=
  (∀ (r : Request) (s : State), takes 18 r s →
    ((arg r.args 0).toNat < 1 ∨ 30 < (arg r.args 0).toNat →
      exec (.logRead r) s = .next (answered r.tag 18 .range false [] s))
    ∧ (1 ≤ (arg r.args 0).toNat → (arg r.args 0).toNat ≤ 30 →
      ∃ taken left, s.ol.store = taken ++ left ∧ recordsLength taken ≤ (arg r.args 0).toNat
        ∧ (∀ x rest, left = x :: rest → (arg r.args 0).toNat < recordsLength taken + x.length)
        ∧ (left = [] → recordsLength taken + 4 ≤ (arg r.args 0).toNat →
          exec (.logRead r) s = .next (answered r.tag 18 .ok false
            (recordsWords taken ++ timeRecord s.tg.counter s.ol.lost s.ol.firstLoss)
            (s.withOl { s.ol with store := [], fill := s.ol.fill - recordsLength taken, lost := 0, firstLoss := 0 })))
        ∧ (left ≠ [] ∨ (arg r.args 0).toNat < recordsLength taken + 4 →
          exec (.logRead r) s = .next (answered r.tag 18 .ok (!left.isEmpty) (recordsWords taken)
            (s.withOl { s.ol with store := left, fill := s.ol.fill - recordsLength taken })))))
  ∧ ([Zone.cool, .warm, .hot, .critical].map Zone.code = [0, 1, 2, 3]
      ∧ [MismatchState.matched, .detuned, .severe, .parked].map MismatchState.code = [0, 1, 2, 3]
      ∧ [Module.a, .b].map Module.code = [0, 1] ∧ [ChargeState.ok, .capped].map ChargeState.code = [0, 1]
      ∧ [Reason.none, .thermal, .mismatch, .rated, .slew, .floor, .shed, .current, .parked, .absent, .duplicate, .fixed].map
          Reason.code = List.range 12
      ∧ [FlipPoint.frame, .quiet].map FlipPoint.code = [0, 1]
      ∧ [LinkError.check, .malformed, .overrun, .droppedRequest].map LinkError.code = [0, 1, 2, 3]
      ∧ [InvalidReason.range, .shape, .abandoned].map InvalidReason.code = [1, 2, 3]
      ∧ [ResetCause.powerOn, .pin, .soft].map ResetCause.code = [0, 1, 2])
  ∧ (∀ (r : Record) (rs : List Record), recordsWords [] = [] ∧ recordsWords (r :: rs) = r.words ++ recordsWords rs
      ∧ r.words.length = r.length)
  ∧ (∀ (g : GrantEntry) (q : Int), -200 ≤ q → q ≤ 140 →
      bits g.word 14 2 = g.chain.val ∧ bits g.word 10 4 = g.reason.code ∧ (g.value = .off → bits g.word 0 10 = 512)
        ∧ (g.value = .on q → signedField 10 (bits g.word 0 10) = q))
  ∧ (∀ (r : Record) (w : Nat → Word), (∀ k, w k = r.words.getD k 0) →
      (∀ m slot es t, r = .grant m slot es t → slot ≤ 1023 → es.length ≤ 4 →
        r.length = 2 + es.length ∧ bits (w 0) 12 4 = 1 ∧ bits (w 0) 9 3 = es.length ∧ bit (w 0) 8 = m ∧ bits (w 0) 0 8 = 0
        ∧ (w 1).toNat = slot ∧ ∀ k g, es[k]? = some g → w (k + 2) = g.word)
      ∧ (∀ m old new θ t, r = .zone m old new θ t → -160 ≤ θ → θ ≤ 1623 → t ≤ 65535 →
        r.length = 3 ∧ bits (w 0) 12 4 = 2 ∧ bits (w 0) 9 3 = 0 ∧ bits (w 0) 8 1 = m.code ∧ bits (w 0) 6 2 = old.code
        ∧ bits (w 0) 4 2 = new.code ∧ bits (w 0) 0 4 = 0 ∧ (w 1).toInt = θ ∧ (w 2).toNat = t)
      ∧ (∀ c old new rl t, r = .mismatch c old new rl t → -512 ≤ rl → rl ≤ 340 → t ≤ 65535 →
        r.length = 3 ∧ bits (w 0) 12 4 = 3 ∧ bits (w 0) 10 2 = 0 ∧ bits (w 0) 8 2 = c.val ∧ bits (w 0) 6 2 = old.code
        ∧ bits (w 0) 4 2 = new.code ∧ bits (w 0) 0 4 = 0 ∧ (w 1).toInt = rl ∧ (w 2).toNat = t)
      ∧ (∀ old new sum t, r = .charge old new sum t → sum ≤ 268435440 →
        r.length = 3 ∧ bits (w 0) 12 4 = 4 ∧ bits (w 0) 2 10 = 0 ∧ bits (w 0) 1 1 = old.code ∧ bits (w 0) 0 1 = new.code
        ∧ (w 1).toNat * 65536 + (w 2).toNat = sum)
      ∧ (∀ k v t, r = .reading k v t → -200 ≤ v → v ≤ 4095 →
        r.length = 2 ∧ bits (w 0) 12 4 = 5 ∧ bits (w 0) 4 8 = 0 ∧ bits (w 0) 0 4 = obsCode k ∧ (w 1).toInt = v)
      ∧ (∀ b p t, r = .flip b p t → t ≤ 65535 →
        r.length = 2 ∧ bits (w 0) 12 4 = 6 ∧ bits (w 0) 2 10 = 0 ∧ bits (w 0) 1 1 = b.val ∧ bits (w 0) 0 1 = p.code
        ∧ (w 1).toNat = t)
      ∧ (∀ gone k t, r = .stale gone k t → t ≤ 65535 →
        r.length = 2 ∧ bits (w 0) 12 4 = 7 ∧ bits (w 0) 5 7 = 0 ∧ bit (w 0) 4 = gone ∧ bits (w 0) 0 4 = obsCode k
        ∧ (w 1).toNat = t)
      ∧ (∀ e t, r = .link e t → r.length = 1 ∧ bits (w 0) 12 4 = 8 ∧ bits (w 0) 2 10 = 0 ∧ bits (w 0) 0 2 = e.code)
      ∧ (∀ n why t, r = .curve n why t →
        r.length = 1 ∧ bits (w 0) 12 4 = 9 ∧ bits (w 0) 6 6 = 0 ∧ bits (w 0) 2 4 = n.val ∧ bits (w 0) 0 2 = why.code)
      ∧ (∀ cause t, r = .reset cause t →
        r.length = 1 ∧ bits (w 0) 12 4 = 10 ∧ bits (w 0) 2 10 = 0 ∧ bits (w 0) 0 2 = cause.code))
  ∧ ∀ (counter lost first : Nat) (w : Nat → Word), (∀ k, w k = (timeRecord counter lost first).getD k 0) →
      counter ≤ 16777215 → lost ≤ 65535 → first ≤ 65535 →
      (timeRecord counter lost first).length = 4 ∧ bits (w 0) 12 4 = 11 ∧ bits (w 0) 8 4 = 0
        ∧ bits (w 0) 0 8 * 65536 + (w 1).toNat = counter ∧ (w 2).toNat = lost
        ∧ (w 3).toNat = if lost = 0 then 0 else first

/-- LOG FLUSH (R159): the store is emptied and the fill is 0; the loss data, the counters, the classes and everything
else stand. A LOG READ that follows returns a TIME record with the losses from before. -/
def Obligations.LogFlushEmptiesTheStore : Prop :=
  ∀ (r : Request) (s : State), takes 19 r s →
    exec (.logFlush r) s = .next (answered r.tag 19 .ok false [] (s.withOl { s.ol with store := [], fill := 0 }))
      ∧ ∀ (q : Request) (t : State), exec (.logFlush r) s = .next t → takes 18 q t → 4 ≤ (arg q.args 0).toNat →
          (arg q.args 0).toNat ≤ 30 →
          exec (.logRead q) t = .next (answered q.tag 18 .ok false (timeRecord s.tg.counter s.ol.lost s.ol.firstLoss)
            (t.withOl { t.ol with lost := 0, firstLoss := 0 }))

/-! ### Requests of the governor as a whole -/

/-- IDENTIFY (R175): the eight fixed values, in every state, and no change but the response. -/
def Obligations.IdentifyReturnsThePart : Prop :=
  ∀ (r : Request) (s : State), takes 1 r s →
    exec (.identify r) s = .next (answered r.tag 1 .ok false [0x4210, 3, 4, 2, 16, 32, 16, 512] s)

/-- MODE SET (R4, R176): a value outside 0..2 is refused RANGE; ACTIVE is refused NOT_READY while the active bank, or the
standby bank of a pending flip, holds no present descriptor; else the mode is stored and the slew memory of all four
chains is cleared, with its last grants left as they stood. -/
def Obligations.ModeSetStoresTheMode : Prop :=
  [Mode.fixed, .monitor, .active].map Mode.code = [0, 1, 2]
  ∧ ∀ (r : Request) (s : State), takes 2 r s →
    (2 < (arg r.args 0).toNat → exec (.modeSet r) s = .next (answered r.tag 2 .range false [] s))
    ∧ ((arg r.args 0).toNat = 2 →
        (s.cb.activeBank.hasPresent = false ∨ (s.cb.flip.isSome = true ∧ s.cb.standbyBank.hasPresent = false)) →
        exec (.modeSet r) s = .next (answered r.tag 2 .notReady false [] s))
    ∧ (∀ m : Mode, m.code = (arg r.args 0).toNat →
        (m = .active → s.cb.activeBank.hasPresent = true ∧ (s.cb.flip.isSome = true → s.cb.standbyBank.hasPresent = true)) →
        ∃ v : Vector SlewMemory 4,
          (∀ c : Chain, v.get c = { last := (s.ge.slew.get c).last, valid := false, age := 0 })
          ∧ exec (.modeSet r) s
              = .next (answered r.tag 2 .ok false [arg r.args 0] (s.withGe { s.ge with mode := m, slew := v })))

/-- PARAM WRITE of a parameter with no write behaviour of its own (R177, R47, R68): an id outside 1..36 is refused RANGE,
an enumerated value outside its codes is refused RANGE, and any other value is clamped to the range, then to the interval
that a tied threshold's neighbours leave, and stored; the status says whether it was clamped, and no other parameter and
no other state changes. The two words of a value hold it in two's complement, high word first (R177). The ids, the ranges and
the enumerated parameters are those of section 11.4, and four parameters have rows of their own. -/
def Obligations.ParamWriteStoresTheClampedValue : Prop :=
  (ParamId.all.map ParamId.id = (List.range 36).map (· + 1)
    ∧ ParamId.all.map ParamId.range
      = [(-200, 140), (1, 255), (1, 255), (0, 1), (0, 255), (0, 4095), (0, 256), (0, 255), (-160, 600), (-160, 600), (-160, 600),
          (0, 80), (-160, 600), (1, 127), (0, 126), (0, 64), (-200, 140), (1, 15)]
        ++ [(1, 255), (1, 255), (1, 255), (0, 127), (0, 127), (-200, 140), (0, 8191), (0, 8191), (1, 255), (0, 268435455),
          (1, 255), (0, 7), (0, 1), (1, 512), (0, 7), (0, 8), (0, 1023), (0, 1)]
    ∧ (∀ p : ParamId, p ∈ ParamId.all
        ∧ (p.enumerated = true ↔ p ∈ [.grantNotes, .logMode, .readingLog, .noticeEnable, .noticeLatch])
        ∧ (ownRow p.id = true ↔ p ∈ [.tickCode, .boardFallback, .noticeEnable, .noticeLatch])))
  ∧   (∀ (r : Request) (s : State), takes 3 r s →
    ((arg r.args 0).toNat = 0 ∨ 36 < (arg r.args 0).toNat →
      exec (.paramWrite r) s = .next (answered r.tag 3 .range false [] s))
    ∧ (∀ p : ParamId, p.id = (arg r.args 0).toNat → ownRow p.id = false → p.enumerated = true →
        (signed32 (arg r.args 1) (arg r.args 2) < p.range.1 ∨ p.range.2 < signed32 (arg r.args 1) (arg r.args 2)) →
        exec (.paramWrite r) s = .next (answered r.tag 3 .range false [] s))
    ∧ (∀ (p : ParamId) (v stored : Int), p.id = (arg r.args 0).toNat → ownRow p.id = false →
        v = signed32 (arg r.args 1) (arg r.args 2) → (p.enumerated = true → p.range.1 ≤ v ∧ v ≤ p.range.2) →
        stored = (match p with
          | .warm => clamp (-160) (s.param .hot - 1) (clamp (-160) 600 v)
          | .hot => clamp (s.param .warm + 1) (s.param .critical - 1) (clamp (-160) 600 v)
          | .critical => clamp (s.param .hot + 1) 600 (clamp (-160) 600 v)
          | .detuneThreshold => clamp (s.param .severeThreshold + 1) 127 (clamp 1 127 v)
          | .severeThreshold => clamp 0 (s.param .detuneThreshold - 1) (clamp 0 126 v)
          | q => clamp q.range.1 q.range.2 v) →
        exec (.paramWrite r) s
            = .next (answered r.tag 3 (if stored = v then .ok else .clamped) false (arg r.args 0 :: words32 stored)
                (s.setParam p stored))
          ∧ (s.setParam p stored).param p = stored ∧ ∀ q, q ≠ p → (s.setParam p stored).param q = s.param q))
  ∧ ∀ v : Int, -2147483648 ≤ v → v ≤ 2147483647 → ∃ high low : Word, words32 v = [high, low] ∧ signed32 high low = v
      ∧ ((high.toNat : Int) * 65536 + low.toNat - v) % 4294967296 = 0

/-- PARAM READ (R178): an id outside 1..36 is refused RANGE; else the id and the stored value, high word first, and no
change but the response. -/
def Obligations.ParamReadReturnsTheStoredValue : Prop :=
  ∀ (r : Request) (s : State), takes 4 r s →
    ((arg r.args 0).toNat = 0 ∨ 36 < (arg r.args 0).toNat →
      exec (.paramRead r) s = .next (answered r.tag 4 .range false [] s))
    ∧ (∀ p : ParamId, p.id = (arg r.args 0).toNat →
      exec (.paramRead r) s = .next (answered r.tag 4 .ok false
        [arg r.args 0, BitVec.ofNat 16 ((BitVec.ofInt 32 (s.param p)).toNat / 65536),
          BitVec.ofNat 16 ((BitVec.ofInt 32 (s.param p)).toNat % 65536)] s))

/-- A write of the tick code (R147): the clamped code is stored and the prescaler and the divider return to 0; the tick
counter, the tick in hand and every count of every block stand. -/
def Obligations.TickCodeWriteRestartsTheTiming : Prop :=
  ∀ (r : Request) (s : State) (v : Int), takes 3 { r with args := paramArgs .tickCode r.args } s →
    v = signed32 (arg r.args 0) (arg r.args 1) →
    exec (.tickCodeWrite r) s
      = .next (answered r.tag 3 (if clamp 0 7 v = v then .ok else .clamped) false (30 :: words32 (clamp 0 7 v))
          ((s.setParam .tickCode (clamp 0 7 v)).withTg { prescaler := 0, divider := 0, counter := s.tg.counter }))

/-- A write of the board fallback (R33): the clamped value is stored; while BOARD is fresh nothing else changes, and while
it is stale the board reference takes the value and both zones are evaluated, module A first. -/
def Obligations.BoardFallbackWriteMovesTheReference : Prop :=
  ∀ (r : Request) (s : State) (v c : Int), takes 3 { r with args := paramArgs .boardFallback r.args } s →
    v = signed32 (arg r.args 0) (arg r.args 1) → c = clamp (-160) 600 v →
    (s.isFresh .board = true →
      exec (.boardFallbackWrite r) s
        = .next (answered r.tag 3 (if c = v then .ok else .clamped) false (13 :: words32 c) (s.setParam .boardFallback c)))
    ∧ (s.isFresh .board = false →
      ∃ t, exec (.boardFallbackWrite r) s = .next t
        ∧ t = answered r.tag 3 (if c = v then .ok else .clamped) false (13 :: words32 c)
            (((s.setParam .boardFallback c).evalZone .a).evalZone .b)
        ∧ t.boardRef = c
        ∧ (∀ m : Module, t.te.get m = { s.te.get m with
            zone := nextZone (c + (s.te.get m).rise) (s.param .warm) (s.param .hot) (s.param .critical)
              (s.param .zoneHysteresis) (s.te.get m).zone })
        ∧ logsOnly ((heard s).setParam .boardFallback c |>.withTe t.te) t)

/-- Writes of the notice parameters (R161 to R163, R177): a value outside the codes is refused RANGE; else it is stored,
and NU runs its test in NON_LATCHED mode, or in LATCHED mode calls for a NOTICE when a class already pending has become
enabled; a change from LATCHED to NON_LATCHED clears notice owed before the test, and a change to LATCHED does nothing
more. That the call is for a class newly enabled, that a write which leaves LATCHED standing does nothing and that one
which leaves NON_LATCHED standing runs the test are the model's readings (assumption log entries 15 and 16). Class k is
enabled by bit k of the parameter. -/
def Obligations.NoticeParameterWritesRetest : Prop :=
  (∀ (s : State) (k : Nat), paramsInRange s → k ≤ 9 →
    s.enableSet.getLsbD k = (s.param .noticeEnable).toNat.testBit k)
  ∧ ∀ (r : Request) (s : State) (v : Int), v = signed32 (arg r.args 0) (arg r.args 1) →
    (takes 3 { r with args := paramArgs .noticeEnable r.args } s →
      ((v < 0 ∨ 1023 < v → exec (.noticeEnableWrite r) s = .next (answered r.tag 3 .range false [] s))
      ∧ (0 ≤ v → v ≤ 1023 → s.param .noticeLatch ≠ 1 →
        exec (.noticeEnableWrite r) s
          = .next (answered r.tag 3 .ok false (35 :: words32 v) (s.setParam .noticeEnable v).noticeTest))
      ∧ (0 ≤ v → v ≤ 1023 → s.param .noticeLatch = 1 → BitVec.ofInt 10 v &&& ~~~ s.enableSet &&& s.nu.pending ≠ 0 →
        exec (.noticeEnableWrite r) s
          = .next (answered r.tag 3 .ok false (35 :: words32 v) (s.setParam .noticeEnable v).noticeCall))
      ∧ (0 ≤ v → v ≤ 1023 → s.param .noticeLatch = 1 → BitVec.ofInt 10 v &&& ~~~ s.enableSet &&& s.nu.pending = 0 →
        exec (.noticeEnableWrite r) s
          = .next (answered r.tag 3 .ok false (35 :: words32 v) (s.setParam .noticeEnable v)))))
    ∧ (takes 3 { r with args := paramArgs .noticeLatch r.args } s →
      ((v ≠ 0 → v ≠ 1 → exec (.noticeLatchWrite r) s = .next (answered r.tag 3 .range false [] s))
      ∧ (v = 1 →
        exec (.noticeLatchWrite r) s = .next (answered r.tag 3 .ok false [36, 0, 1] (s.setParam .noticeLatch 1)))
      ∧ (v = 0 → s.param .noticeLatch = 1 →
        exec (.noticeLatchWrite r) s
          = .next (answered r.tag 3 .ok false [36, 0, 0]
              ((s.setParam .noticeLatch 0).withNu { s.nu with owed := false }).noticeTest))
      ∧ (v = 0 → s.param .noticeLatch ≠ 1 →
        exec (.noticeLatchWrite r) s
          = .next (answered r.tag 3 .ok false [36, 0, 0] (s.setParam .noticeLatch 0).noticeTest))))

/-! ### Banks -/

/-- CHAIN WRITE (R115 to R117): a chain outside 0..3 or an undefined code in a selected field is refused RANGE; else each
selected field takes its value, clamped, each other field stands (MERGE) or takes its empty value (ZERO), the floor is held
to the rated max, and the status says whether a value was changed. One descriptor of the standby bank changes. Present and
module have the codes 0 and 1, a curve reference 0 to 16, of which 16 is NONE (R116). That the
rise step word is read unsigned before its clamp is the model's reading (assumption log entry 10). -/
def Obligations.ChainWriteChangesOneDescriptor : Prop :=
  (∀ (r : Request) (s : State), takes 5 r s → s.cb.flip = none →
    (4 ≤ (arg r.args 0).toNat ∨ codesGood (arg r.args 1) (r.args.drop 2) chainTests = false →
      exec (.chainWrite r) s = .next (answered r.tag 5 .range false [] s))
    ∧ ∀ (h : (arg r.args 0).toNat < 4) (base : Descriptor) (sel : Word), sel = arg r.args 1 →
      codesGood sel (r.args.drop 2) chainTests = true →
      base = (if r.low.toNat / 256 = 1 then Descriptor.empty else s.cb.standbyBank.descriptor ⟨(arg r.args 0).toNat, h⟩) →
      ∃ (d : Descriptor) (floor : Int) (st : Status) (t : State),
        d.present = (if bit sel 0 then decide (arg r.args 2 = 1) else base.present)
        ∧ d.module = (if bit sel 1 then (if arg r.args 3 = 1 then .b else .a) else base.module)
        ∧ d.priority = (if bit sel 2 then (arg r.args 4).toNat % 4 else base.priority)
        ∧ d.rated = (if bit sel 3 then clamp (-200) 140 (arg r.args 5).toInt else base.rated)
        ∧ floor = (if bit sel 4 then clamp (-200) 140 (arg r.args 6).toInt else base.floor) ∧ d.floor = min floor d.rated
        ∧ d.rise = (if bit sel 5 then clamp 1 32 (arg r.args 7).toNat else base.rise)
        ∧ d.ceiling = (if bit sel 6 then CurveRef.ofCode (arg r.args 8).toNat else base.ceiling)
        ∧ d.heat = (if bit sel 7 then CurveRef.ofCode (arg r.args 9).toNat else base.heat)
        ∧ d.current = (if bit sel 8 then CurveRef.ofCode (arg r.args 10).toNat else base.current)
        ∧ st = (if (bit sel 3 = true ∧ clamp (-200) 140 (arg r.args 5).toInt ≠ (arg r.args 5).toInt)
              ∨ (bit sel 4 = true ∧ clamp (-200) 140 (arg r.args 6).toInt ≠ (arg r.args 6).toInt)
              ∨ (bit sel 5 = true ∧ clamp 1 32 (arg r.args 7).toNat ≠ (arg r.args 7).toNat) ∨ d.rated < floor
            then .clamped else .ok)
        ∧ t = s.setStandbyBank { s.cb.standbyBank with chains := s.cb.standbyBank.chains.set (arg r.args 0).toNat d h }
        ∧ exec (.chainWrite r) s = .next (answered r.tag 5 st false (arg r.args 0 :: d.packed) t)
        ∧ t.cb.activeBank = s.cb.activeBank ∧ t.cb.active = s.cb.active
        ∧ ∀ c : Chain, t.cb.standbyBank.descriptor c
            = if c.val = (arg r.args 0).toNat then d else s.cb.standbyBank.descriptor c)
  ∧ (∀ (sel : Word) (f : List Word), codesGood sel f chainTests = true ↔
      (bit sel 0 = true → (arg f 0).toNat ≤ 1) ∧ (bit sel 1 = true → (arg f 1).toNat ≤ 1)
        ∧ (bit sel 6 = true → (arg f 6).toNat ≤ 16) ∧ (bit sel 7 = true → (arg f 7).toNat ≤ 16)
        ∧ (bit sel 8 = true → (arg f 8).toNat ≤ 16))
  ∧ (∀ n : Fin 16, CurveRef.ofCode n.val = .slot n) ∧ CurveRef.ofCode 16 = .none

/-- RULE WRITE (R115 to R117): as CHAIN WRITE, for a rule 0..31; the masks take the bits of their fields, the backoff is
clamped to 0..63, and one rule of the standby bank changes. HEADER WRITE: the same for the header, whose bank's
descriptors and rules stand. Valid and log-always have the codes 0 and 1, an anchor match and a shed policy 0 to 2, a ceiling
0 to 15 and 17, DEFAULT (R116). That the backoff words are read unsigned before their clamp is the model's reading
(assumption log entry 10). -/
def Obligations.RuleAndHeaderWritesChangeOneRecord : Prop :=
  (∀ (r : Request) (s : State), takes 6 r s → s.cb.flip = none →
    (32 ≤ (arg r.args 0).toNat ∨ codesGood (arg r.args 1) (r.args.drop 2) ruleTests = false →
      exec (.ruleWrite r) s = .next (answered r.tag 6 .range false [] s))
    ∧ ∀ (h : (arg r.args 0).toNat < 32) (base : Rule) (sel : Word), sel = arg r.args 1 →
      codesGood sel (r.args.drop 2) ruleTests = true →
      base = (if r.low.toNat / 256 = 1 then Rule.empty else s.cb.standbyBank.rules.get ⟨(arg r.args 0).toNat, h⟩) →
      ∃ (d : Rule) (st : Status) (t : State),
        d.valid = (if bit sel 0 then decide (arg r.args 2 = 1) else base.valid)
        ∧ d.chains = (if bit sel 1 then (arg r.args 3).setWidth 4 else base.chains)
        ∧ d.bands = (if bit sel 2 then arg r.args 4 else base.bands)
        ∧ d.waveforms = (if bit sel 3 then (arg r.args 5).setWidth 4 else base.waveforms)
        ∧ d.zones = (if bit sel 4 then (arg r.args 6).setWidth 4 else base.zones)
        ∧ d.mismatches = (if bit sel 5 then (arg r.args 7).setWidth 3 else base.mismatches)
        ∧ d.anchor = (if bit sel 6 then AnchorMatch.ofCode (arg r.args 8).toNat else base.anchor)
        ∧ d.ceiling = (if bit sel 7 then CeilingRef.ofCode (arg r.args 9).toNat else base.ceiling)
        ∧ d.backoff = (if bit sel 8 then min 63 ((arg r.args 10).toNat : Int) else base.backoff)
        ∧ d.shed = (if bit sel 9 then ShedPolicy.ofCode (arg r.args 11).toNat else base.shed)
        ∧ d.logAlways = (if bit sel 10 then decide (arg r.args 12 = 1) else base.logAlways)
        ∧ st = (if bit sel 8 = true ∧ 63 < (arg r.args 10).toNat then .clamped else .ok)
        ∧ t = s.setStandbyBank { s.cb.standbyBank with rules := s.cb.standbyBank.rules.set (arg r.args 0).toNat d h }
        ∧ exec (.ruleWrite r) s = .next (answered r.tag 6 st false (arg r.args 0 :: d.packed) t)
        ∧ t.cb.activeBank = s.cb.activeBank ∧ t.cb.active = s.cb.active
        ∧ ∀ n : Fin 32, t.cb.standbyBank.rules.get n
            = if n.val = (arg r.args 0).toNat then d else s.cb.standbyBank.rules.get n)
  ∧ (∀ (r : Request) (s : State), takes 7 r s → s.cb.flip = none →
      (codesGood (arg r.args 0) (r.args.drop 1) headerTests = false →
        exec (.headerWrite r) s = .next (answered r.tag 7 .range false [] s))
      ∧ ∀ (base : Header) (sel : Word), sel = arg r.args 0 → codesGood sel (r.args.drop 1) headerTests = true →
        base = (if r.low.toNat / 256 = 1 then Header.empty else s.cb.standbyBank.header) →
        ∃ (d : Header) (st : Status) (t : State),
          d.supply = (if bit sel 0 then CurveRef.ofCode (arg r.args 1).toNat else base.supply)
          ∧ d.ceiling = (if bit sel 1 then CeilingRef.ofCode (arg r.args 2).toNat else base.ceiling)
          ∧ d.backoff = (if bit sel 2 then min 63 ((arg r.args 3).toNat : Int) else base.backoff)
          ∧ d.shed = (if bit sel 3 then ShedPolicy.ofCode (arg r.args 4).toNat else base.shed)
          ∧ st = (if bit sel 2 = true ∧ 63 < (arg r.args 3).toNat then .clamped else .ok)
          ∧ t = s.setStandbyBank { s.cb.standbyBank with header := d }
          ∧ exec (.headerWrite r) s = .next (answered r.tag 7 st false (0 :: d.packed) t)
          ∧ t.cb.activeBank = s.cb.activeBank ∧ t.cb.active = s.cb.active ∧ t.cb.standbyBank.header = d)
  ∧ (∀ (sel : Word) (f : List Word), codesGood sel f ruleTests = true ↔
      (bit sel 0 = true → (arg f 0).toNat ≤ 1) ∧ (bit sel 6 = true → (arg f 6).toNat ≤ 2)
        ∧ (bit sel 7 = true → (arg f 7).toNat < 16 ∨ (arg f 7).toNat = 17)
        ∧ (bit sel 9 = true → (arg f 9).toNat ≤ 2) ∧ (bit sel 10 = true → (arg f 10).toNat ≤ 1))
  ∧ (∀ (sel : Word) (f : List Word), codesGood sel f headerTests = true ↔
      (bit sel 0 = true → (arg f 0).toNat ≤ 16) ∧ (bit sel 1 = true → (arg f 1).toNat < 16 ∨ (arg f 1).toNat = 17)
        ∧ (bit sel 3 = true → (arg f 3).toNat ≤ 2))
  ∧ (∀ n : Fin 16, CeilingRef.ofCode n.val = .slot n) ∧ CeilingRef.ofCode 17 = .default
  ∧ [0, 1, 2].map AnchorMatch.ofCode = [.any, .anchor, .nonAnchor]
  ∧ [0, 1, 2].map ShedPolicy.ofCode = [.default, .allow, .forbid]

/-- While a flip is pending every standby write, COPY and a second FLIP with a defined point are refused BUSY, and nothing
changes but the response (R116, R119, R121). -/
def Obligations.PendingFlipRefusesBankChanges : Prop :=
  ∀ (r : Request) (s : State), s.cb.flip.isSome = true →
    (takes 5 r s → exec (.chainWrite r) s = .next (answered r.tag 5 .busy false [] s))
    ∧ (takes 6 r s → exec (.ruleWrite r) s = .next (answered r.tag 6 .busy false [] s))
    ∧ (takes 7 r s → exec (.headerWrite r) s = .next (answered r.tag 7 .busy false [] s))
    ∧ (takes 8 r s → exec (.copy r) s = .next (answered r.tag 8 .busy false [] s))
    ∧ (takes 9 r s → (arg r.args 0).toNat ≤ 1 → exec (.flip r) s = .next (answered r.tag 9 .busy false [] s))

/-- COPY (R119): refused BUSY while a flip is pending; else the standby bank becomes equal to the active bank, which stands
with its id and the pinned set, and it passes every check of a FLIP. -/
def Obligations.CopyMakesTheBanksEqual : Prop :=
  ∀ (r : Request) (s : State), takes 8 r s →
    (s.cb.flip.isSome = true → exec (.copy r) s = .next (answered r.tag 8 .busy false [] s))
    ∧ (s.cb.flip = none → ∃ t, t = s.setStandbyBank s.cb.activeBank
        ∧ exec (.copy r) s = .next (answered r.tag 8 .ok false [] t)
        ∧ t.cb.standbyBank = s.cb.activeBank ∧ t.cb.activeBank = s.cb.activeBank ∧ t.cb.active = s.cb.active
        ∧ (∀ n, t.pinned n = s.pinned n)
        ∧ (referencesSound s → t.failingRef = none) ∧ t.cb.standbyBank.hasPresent = s.cb.activeBank.hasPresent)

/-- FLIP (R121, R122): an undefined point is refused RANGE; with none pending, the first failing reference of the
standby bank, in the order of R121, is refused NOT_READY with its place, slot, state and kind; in ACTIVE a standby bank
with no present descriptor is refused NOT_READY, NO_CHAIN; else a QUIET flip in a QUIET stream is applied at once, and
every other flip becomes pending. The references in force of a bank are those of R102: the header's supply curve and
default ceiling, the three curves of each present descriptor and the ceiling of each valid rule, where each names a
slot, and no others; they stand in the order of R121: header, descriptors, rules, by index and then by field, each once.
A slot is pinned while one of them of the active bank, or of the standby bank while a flip is pending, names it (R103),
and a reference is met by a VALID slot of its kind. -/
def Obligations.FlipIsCheckedThenHeldOrApplied : Prop :=
  (∀ (r : Request) (s : State), takes 9 r s →
    (2 ≤ (arg r.args 0).toNat → exec (.flip r) s = .next (answered r.tag 9 .range false [] s))
    ∧ (∀ pre x post, (arg r.args 0).toNat ≤ 1 → s.cb.flip = none → s.cb.standbyBank.refs = pre ++ x :: post →
        (∀ y ∈ pre, s.cs.satisfies y = true) → s.cs.satisfies x = false →
        exec (.flip r) s = .next (answered r.tag 9 .notReady false
          [0, Word.ofNatural x.place, Word.ofNatural x.index, Word.ofNatural x.field, Word.ofNatural x.slot.val,
            Word.ofNatural ((s.cs.slots.get x.slot).stateCode + (s.cs.slots.get x.slot).kindCode * 4)] s))
    ∧ ((arg r.args 0).toNat ≤ 1 → s.cb.flip = none → (∀ y ∈ s.cb.standbyBank.refs, s.cs.satisfies y = true) →
        s.ge.mode = .active → s.cb.standbyBank.hasPresent = false →
        exec (.flip r) s = .next (answered r.tag 9 .notReady false [1] s))
    ∧ (∀ p : FlipPoint, p.code = (arg r.args 0).toNat → s.cb.flip = none →
        (∀ y ∈ s.cb.standbyBank.refs, s.cs.satisfies y = true) →
        (s.ge.mode = .active → s.cb.standbyBank.hasPresent = true) →
        ((p = .frame ∨ s.ge.stream = .live →
            exec (.flip r) s = .next (answered r.tag 9 .ok false [0] (s.withCb { s.cb with flip := some p })))
        ∧ (p = .quiet → s.ge.stream = .quiet →
            exec (.flip r) s = .next (answered r.tag 9 .ok false [1] (s.applyFlip .quiet))))))
  ∧ (∀ b : Bank,
      (∀ x : RefInForce, x ∈ b.refs ↔
        (x.place = 0 ∧ x.index = 0 ∧ ((x.field = 0 ∧ x.kind = .supply ∧ b.header.supply = .slot x.slot)
            ∨ (x.field = 1 ∧ x.kind = .ceiling ∧ b.header.ceiling = .slot x.slot)))
        ∨ (∃ c : Chain, x.place = 1 ∧ x.index = c.val ∧ (b.descriptor c).present = true
            ∧ ((x.field = 6 ∧ x.kind = .ceiling ∧ (b.descriptor c).ceiling = .slot x.slot)
              ∨ (x.field = 7 ∧ x.kind = .heat ∧ (b.descriptor c).heat = .slot x.slot)
              ∨ (x.field = 8 ∧ x.kind = .current ∧ (b.descriptor c).current = .slot x.slot)))
        ∨ (∃ n : Fin 32, x.place = 2 ∧ x.index = n.val ∧ (b.rules.get n).valid = true ∧ x.field = 7 ∧ x.kind = .ceiling
            ∧ (b.rules.get n).ceiling = .slot x.slot))
      ∧ (b.refs.Pairwise fun x y => x.place < y.place
          ∨ (x.place = y.place ∧ (x.index < y.index ∨ (x.index = y.index ∧ x.field < y.field))))
      ∧ (b.hasPresent = true ↔ ∃ c : Chain, (b.descriptor c).present = true))
  ∧ (∀ (s : State) (x : RefInForce),
      (s.cs.satisfies x = true ↔ ∃ d, s.cs.slots.get x.slot = .valid d ∧ d.kind = x.kind)
      ∧ ∀ n : Fin 16, s.pinned n = true ↔
          (∃ y ∈ s.cb.activeBank.refs, y.slot = n) ∨ (s.cb.flip.isSome = true ∧ ∃ y ∈ s.cb.standbyBank.refs, y.slot = n))
  ∧ ∀ (d : CurveData) (why : InvalidReason),
      [CurveSlot.empty, .loading d, .valid d, .invalid why d].map CurveSlot.stateCode = [0, 1, 2, 3]
      ∧ [CurveSlot.empty, .loading d, .valid d, .invalid why d].map CurveSlot.kindCode = [0, d.kind.code, d.kind.code, d.kind.code]

/-- The application of a flip (R126, R67, R90): the bank ids are exchanged and the pending flip ends, the slew memory of
all four chains is cleared with its last grants left, each chain absent from the new active bank has the reset record, with
a MISMATCH record and the class when it was not MATCHED, and every other record stands, the FLIP record is the newest of a
log in OVERWRITE, the FLIP class is raised, and nothing else changes but the log, the notices and the insert queue. -/
def Obligations.FlipApplicationExchangesTheBanks : Prop :=
  ∀ (p : FlipPoint) (s t : State), t = s.applyFlip p →
    t.cb = { s.cb with active := s.cb.standbyId, flip := none } ∧ t.cb.activeBank = s.cb.standbyBank
      ∧ t.cb.standbyBank = s.cb.activeBank
      ∧ (∀ c : Chain, t.ge.slew.get c = { last := (s.ge.slew.get c).last, valid := false, age := 0 })
      ∧ (∀ c : Chain, t.ms.get c
          = if (s.cb.standbyBank.descriptor c).present then s.ms.get c else ChainRecord.reset)
      ∧ (∀ c : Chain, (s.cb.standbyBank.descriptor c).present = false → (s.ms.get c).state ≠ .matched →
          raised .mismatch t
          ∧ (logSound s → s.param .logMode = 1 →
              .mismatch c (s.ms.get c).state .matched (s.ms.get c).lastRL s.stamp ∈ t.ol.store))
      ∧ (s.param .logMode = 1 → newest t = some (.flip s.cb.standbyId p s.stamp))
      ∧ raised .flip t
      ∧ logsOnly { s with cb := t.cb, ge := { s.ge with slew := t.ge.slew }, ms := t.ms } t

/-- FLIP CANCEL (R124): refused STATE when no flip is pending; else the flip ends, with no record and no class, the bank
ids and both banks stand, and a slot is pinned afterwards only by the active bank. -/
def Obligations.FlipCancelEndsThePendingFlip : Prop :=
  ∀ (r : Request) (s : State), takes 10 r s →
    (s.cb.flip = none → exec (.flipCancel r) s = .next (answered r.tag 10 .state false [] s))
    ∧ (s.cb.flip.isSome = true → ∃ t, t = s.withCb { s.cb with flip := none }
        ∧ exec (.flipCancel r) s = .next (answered r.tag 10 .ok false [] t)
        ∧ t.cb.active = s.cb.active ∧ t.cb.standbyBank = s.cb.standbyBank
        ∧ ∀ n, t.pinned n = true ↔ ∃ x ∈ s.cb.activeBank.refs, x.slot = n)

/-- TABLE READ, CURVE READ and MAP READ (R120, R106, R134): a code or run out of range is refused RANGE, anything else is
answered OK with what the tables hold, and nothing changes but the response. Word 2 of a TABLE READ holds the resolved and
the active bank id, the pending flip and its point (R180); with no flip pending its point bit is free (assumption log
entry 25). Of fields within their ranges, each word and bit of a packed descriptor, rule and header, of a CURVE READ and of a
map entry gives the field that R180 names for it, with the other bits 0; a TABLE READ returns its records in index order. -/
def Obligations.TableReadsChangeNothing : Prop :=
  (∀ (r : Request) (s : State),
    (takes 11 r s →
      (1 < (arg r.args 0).toNat ∨ 2 < (arg r.args 1).toNat →
        exec (.tableRead r) s = .next (answered r.tag 11 .range false [] s))
      ∧ ((arg r.args 1).toNat = 1 ∨ (arg r.args 1).toNat = 2 →
          (arg r.args 3).toNat < 1 ∨ 4 < (arg r.args 3).toNat
            ∨ (if (arg r.args 1).toNat = 1 then 4 else 32) < (arg r.args 2).toNat + (arg r.args 3).toNat →
          exec (.tableRead r) s = .next (answered r.tag 11 .range false [] s))
      ∧ (∀ (id : Fin 2) (first : Nat) (ws : List Word), (arg r.args 0).toNat ≤ 1 →
          id = (if (arg r.args 0).toNat = 0 then s.cb.active else s.cb.standbyId) →
          (s.cb.bank id).tableRun (arg r.args 1).toNat (arg r.args 2).toNat (arg r.args 3).toNat = some (first, ws) →
          exec (.tableRead r) s
            = .next (answered r.tag 11 .ok false (s.tableWord id :: Word.ofNatural first :: ws) s)
            ∧ bits (s.tableWord id) 0 1 = id.val ∧ bits (s.tableWord id) 1 1 = s.cb.active.val
            ∧ bit (s.tableWord id) 2 = s.cb.flip.isSome ∧ ∀ p, s.cb.flip = some p → bits (s.tableWord id) 3 1 = p.code))
    ∧ (takes 14 r s →
      (16 ≤ (arg r.args 0).toNat → exec (.curveRead r) s = .next (answered r.tag 14 .range false [] s))
      ∧ (∀ n : Fin 16, n.val = (arg r.args 0).toNat →
          exec (.curveRead r) s = .next (answered r.tag 14 .ok false ((s.cs.slots.get n).readWords (s.pinned n)) s)))
    ∧ (takes 16 r s → s.inHand.intake = none →
      ((arg r.args 1).toNat < 1 ∨ 16 < (arg r.args 0).toNat + (arg r.args 1).toNat →
        exec (.mapRead r) s = .next (answered r.tag 16 .range false [] s))
      ∧ (1 ≤ (arg r.args 1).toNat → (arg r.args 0).toNat + (arg r.args 1).toNat ≤ 16 →
        exec (.mapRead r) s = .next (answered r.tag 16 .ok false
          (arg r.args 0 :: arg r.args 1 :: mapRun s.ti.map (arg r.args 0).toNat (arg r.args 1).toNat) s))))
  ∧ (∀ (b : Bank) (first count : Nat),
      b.tableRun 0 first count = some (0, b.header.packed)
      ∧ (1 ≤ count → count ≤ 4 → first + count ≤ 4 → ∃ ws, b.tableRun 1 first count = some (first, ws)
          ∧ ws.length = 3 * count ∧ ∀ (c : Chain) (i j : Nat), c.val = first + i → i < count → j < 3 →
            ws[3 * i + j]? = (b.descriptor c).packed[j]?)
      ∧ (1 ≤ count → count ≤ 4 → first + count ≤ 32 → ∃ ws, b.tableRun 2 first count = some (first, ws)
          ∧ ws.length = 3 * count ∧ ∀ (n : Fin 32) (i j : Nat), n.val = first + i → i < count → j < 3 →
            ws[3 * i + j]? = (b.rules.get n).packed[j]?))
  ∧ ([CurveKind.ceiling, .heat, .current, .supply].map CurveKind.code = [0, 1, 2, 3]
      ∧ [AnchorMatch.any, .anchor, .nonAnchor].map AnchorMatch.code = [0, 1, 2]
      ∧ [ShedPolicy.default, .allow, .forbid].map ShedPolicy.code = [0, 1, 2]
      ∧ obsAll.map obsCode = (List.range 12).map (· + 1))
  ∧ ((∀ n : Fin 16, (CurveRef.slot n).code = n.val ∧ (CeilingRef.slot n).code = n.val) ∧ CurveRef.none.code = 16
      ∧ CeilingRef.default.code = 17)
  ∧ (∀ (d : Descriptor) (w : Nat → Word), (∀ k, w k = d.packed.getD k 0) → d.priority ≤ 3 → -200 ≤ d.rated → d.rated ≤ 140 →
      -200 ≤ d.floor → d.floor ≤ 140 → 1 ≤ d.rise → d.rise ≤ 32 →
      d.packed.length = 3 ∧ bit (w 0) 15 = d.present ∧ bits (w 0) 14 1 = d.module.code ∧ bits (w 0) 12 2 = d.priority
        ∧ bits (w 0) 10 2 = 0 ∧ signedField 10 (bits (w 0) 0 10) = d.rated ∧ (bits (w 1) 10 6 : Int) = d.rise
        ∧ signedField 10 (bits (w 1) 0 10) = d.floor ∧ bits (w 2) 15 1 = 0 ∧ bits (w 2) 10 5 = d.ceiling.code
        ∧ bits (w 2) 5 5 = d.heat.code ∧ bits (w 2) 0 5 = d.current.code)
  ∧ (∀ (r : Rule) (w : Nat → Word), (∀ k, w k = r.packed.getD k 0) → 0 ≤ r.backoff → r.backoff ≤ 63 →
      r.packed.length = 3 ∧ w 0 = r.bands ∧ bits (w 1) 12 4 = r.chains.toNat ∧ bits (w 1) 8 4 = r.waveforms.toNat
        ∧ bits (w 1) 4 4 = r.zones.toNat ∧ bit (w 1) 3 = r.valid ∧ bits (w 1) 0 3 = r.mismatches.toNat
        ∧ bit (w 2) 15 = r.logAlways ∧ bits (w 2) 13 2 = r.anchor.code ∧ bits (w 2) 11 2 = r.shed.code
        ∧ bits (w 2) 6 5 = r.ceiling.code ∧ (bits (w 2) 0 6 : Int) = r.backoff)
  ∧ (∀ (h : Header) (w : Nat → Word), (∀ k, w k = h.packed.getD k 0) → 0 ≤ h.backoff → h.backoff ≤ 63 →
      h.packed.length = 2 ∧ bits (w 0) 10 6 = 0 ∧ bits (w 0) 5 5 = h.supply.code ∧ bits (w 0) 0 5 = h.ceiling.code
        ∧ bits (w 1) 8 8 = 0 ∧ bits (w 1) 6 2 = h.shed.code ∧ (bits (w 1) 0 6 : Int) = h.backoff)
  ∧ (∀ (c : CurveSlot) (p : Bool) (w : Nat → Word), (∀ k, w k = (c.readWords p).getD k 0) →
      bit (w 0) 4 = p ∧ bits (w 0) 7 9 = 0
      ∧ (c = .empty → bits (w 0) 0 4 = 0 ∧ bits (w 0) 5 2 = 0 ∧ c.readWords p = [w 0, 0, 0, 0])
      ∧ ∀ (d : CurveData) (st why : Nat), (c = .loading d ∧ st = 1 ∧ why = 0) ∨ (c = .valid d ∧ st = 2 ∧ why = 0)
            ∨ (∃ x : InvalidReason, c = .invalid x d ∧ st = 3 ∧ why = x.code) →
          -200 ≤ d.x0 → d.x0 ≤ 4095 → d.shift ≤ 7 → d.ys.length ≤ 17 → (∀ y ∈ d.ys, -32768 ≤ y ∧ y ≤ 32767) →
          bits (w 0) 0 2 = st ∧ bits (w 0) 2 2 = why ∧ bits (w 0) 5 2 = d.kind.code ∧ (w 1).toInt = d.x0
            ∧ (w 2).toNat = d.shift ∧ (w 3).toNat = d.ys.length ∧ (c.readWords p).length = 4 + d.ys.length
            ∧ ∀ i y, d.ys[i]? = some y → (w (4 + i)).toInt = y)
  ∧ ∀ (m : Vector MapEntry 16) (first count : Nat), first + count ≤ 16 →
      (mapRun m first count).length = count
      ∧ ∀ (n : Fin 16) (i : Nat) (w : Word), n.val = first + i → (mapRun m first count)[i]? = some w →
          -128 ≤ (m.get n).offset → (m.get n).offset ≤ 127 →
          ((m.get n).kind = none → bits w 12 4 = 0) ∧ (∀ k, (m.get n).kind = some k → bits w 12 4 = obsCode k)
            ∧ signedField 12 (bits w 0 12) = (m.get n).offset

/-! ### Curves -/

/-- CURVE OPEN (R96, R97): a slot or kind out of range is refused RANGE, a pinned slot IN_USE; else another slot that is
LOADING becomes INVALID, ABANDONED, with a CURVE record, the named slot is LOADING with the clamped x0 and step shift and
no values, and the cursor names it. The domain of x0 is −160..600 for a CEILING, −200..140 for a HEAT or CURRENT and 0..4095
for a SUPPLY curve (R92). -/
def Obligations.CurveOpenStartsALoad : Prop :=
  [CurveKind.ceiling, .heat, .current, .supply].map CurveKind.domain = [(-160, 600), (-200, 140), (-200, 140), (0, 4095)]
  ∧ ∀ (r : Request) (s : State), takes 12 r s →
    (16 ≤ (arg r.args 0).toNat ∨ 3 < (arg r.args 1).toNat →
      exec (.curveOpen r) s = .next (answered r.tag 12 .range false [] s))
    ∧ (∀ n : Fin 16, n.val = (arg r.args 0).toNat → (arg r.args 1).toNat ≤ 3 → s.pinned n = true →
      exec (.curveOpen r) s = .next (answered r.tag 12 .inUse false [] s))
    ∧ (∀ (n : Fin 16) (k : CurveKind) (x0 : Int) (sh : Nat), n.val = (arg r.args 0).toNat → k.code = (arg r.args 1).toNat →
      s.pinned n = false → x0 = clamp k.domain.1 k.domain.2 (arg r.args 2).toInt → sh = min 7 (arg r.args 3).toNat →
      ∃ t, exec (.curveOpen r) s = .next (answered r.tag 12
            (if x0 = (arg r.args 2).toInt ∧ sh = (arg r.args 3).toNat then .ok else .clamped) false
            [arg r.args 0, arg r.args 1, Word.ofSigned x0, Word.ofNatural sh] t)
        ∧ t.cs.slots.get n = .loading { kind := k, x0 := x0, shift := sh, ys := [] }
        ∧ t.cs.cursor = some { slot := n, cursor := 0 }
        ∧ (∀ l d, s.cs.cursor = some l → l.slot ≠ n → s.cs.slots.get l.slot = .loading d →
            t.cs.slots.get l.slot = .invalid .abandoned d
            ∧ (s.param .logMode = 1 → newest t = some (.curve l.slot .abandoned s.stamp)))
        ∧ (∀ m, m ≠ n → (∀ l, s.cs.cursor = some l → l.slot ≠ m) → t.cs.slots.get m = s.cs.slots.get m)
        ∧ ((s.cs.cursor = none ∨ s.cs.cursor.map LoadCursor.slot = some n) → t = s.withCs t.cs)
        ∧ logsOnly (s.withCs t.cs) t)

/-- CURVE DATA (R98 to R100): no value is refused FORMAT, no LOADING slot STATE, more values than the slot awaits LENGTH
with the cursor; else the values join the list, and with the 17th the slot closes, INVALID with reason RANGE before
SHAPE and a CURVE record, or VALID with none, and the cursor is empty. The range test asks every value to lie in
−200..140 for a CEILING, 0..4095 for a HEAT or CURRENT and 0..8191 for a SUPPLY curve, the shape test every value of a
CEILING to be at or below the one before it, of any other kind at or above it (R92). -/
def Obligations.CurveDataExtendsAndClosesTheLoad : Prop :=
  (∀ (k : CurveKind) (ys : List Int) (lo hi : Int),
    (lo, hi) = (match k with
      | .ceiling => (-200, 140)
      | .heat => (0, 4095)
      | .current => (0, 4095)
      | .supply => (0, 8191)) →
    (yRangeGood k ys = true ↔ ∀ y ∈ ys, lo ≤ y ∧ y ≤ hi)
    ∧ (shapeGood k ys = true ↔ ∀ (i : Nat) (y z : Int), ys[i]? = some y → ys[i + 1]? = some z →
        if k = .ceiling then z ≤ y else y ≤ z))
  ∧ ∀ (r : Request) (s : State), takes 13 r s →
    (r.args = [] → exec (.curveData r) s = .next (answered r.tag 13 .format false [] s))
    ∧ (r.args ≠ [] → s.cs.cursor = none → exec (.curveData r) s = .next (answered r.tag 13 .state false [] s))
    ∧ (∀ (l : LoadCursor) (d e : CurveData), r.args ≠ [] → s.cs.cursor = some l → s.cs.slots.get l.slot = .loading d →
        e = { d with ys := d.ys ++ r.args.map BitVec.toInt } →
        (17 < l.cursor + r.args.length →
          exec (.curveData r) s
            = .next (answered r.tag 13 .length false [Word.ofNatural l.slot.val, Word.ofNatural l.cursor] s))
        ∧ (l.cursor + r.args.length < 17 →
          exec (.curveData r) s = .next (answered r.tag 13 .ok false
            [Word.ofNatural l.slot.val, Word.ofNatural (l.cursor + r.args.length)]
            (s.withCs {
              slots := s.cs.slots.set l.slot.val (.loading e) l.slot.isLt
              cursor := some { slot := l.slot, cursor := l.cursor + r.args.length } })))
        ∧ (l.cursor + r.args.length = 17 → yRangeGood e.kind e.ys = true → shapeGood e.kind e.ys = true →
          exec (.curveData r) s = .next (answered r.tag 13 .ok false [Word.ofNatural l.slot.val, 17, 2]
            (s.withCs { slots := s.cs.slots.set l.slot.val (.valid e) l.slot.isLt, cursor := none })))
        ∧ (∀ why : InvalidReason, l.cursor + r.args.length = 17 →
          (why = .range ∧ yRangeGood e.kind e.ys = false)
            ∨ (why = .shape ∧ yRangeGood e.kind e.ys = true ∧ shapeGood e.kind e.ys = false) →
          exec (.curveData r) s
            = .next (answered r.tag 13 .ok false [Word.ofNatural l.slot.val, 17, Word.ofNatural (3 + why.code * 4)]
                ((s.withCs { slots := s.cs.slots.set l.slot.val (.invalid why e) l.slot.isLt, cursor := none }).record
                  (.curve l.slot why s.stamp)))))

/-- The evaluation of a curve of 17 points (R93, R94): at or below x0 the first value, at or beyond the last grid point
the last, between them floor interpolation; each grid point gives its value, the result lies within any bounds of the
points, and a larger x never goes against the curve's direction. -/
def Obligations.CurveEvaluationFollowsItsPoints : Prop :=
  ∀ d : CurveData, d.ys.length = 17 →
    (∀ (c : CurveStore) (n : Fin 16) (x : Int), c.slots.get n = .valid d → c.eval n x = d.eval x)
    ∧ (∀ x : Int, x ≤ d.x0 → d.eval x = d.y 0)
    ∧ (∀ x : Int, d.x0 + 16 * 2 ^ d.shift ≤ x → d.eval x = d.y 16)
    ∧ (∀ (x : Int) (i : Nat) (f : Int), i ≤ 15 → 0 ≤ f → f < 2 ^ d.shift → x = d.x0 + i * 2 ^ d.shift + f →
        d.eval x = d.y i + (d.y (i + 1) - d.y i) * f / 2 ^ d.shift)
    ∧ (∀ lo hi x : Int, (∀ i, i ≤ 16 → lo ≤ d.y i ∧ d.y i ≤ hi) → lo ≤ d.eval x ∧ d.eval x ≤ hi)
    ∧ (shapeGood d.kind d.ys = true → ∀ x z : Int, x ≤ z →
        if d.kind = .ceiling then d.eval z ≤ d.eval x else d.eval x ≤ d.eval z)

/-! ### The map, the sections and the notices -/

/-- MAP WRITE (R133): a run outside the sixteen channels, or an undefined kind, is refused RANGE and writes nothing; else
each channel of the run takes the kind carried for it and the offset clamped to −128..+127, every other channel stands, and
no observation changes. A kind code is that of section 7.2, 0 for NONE. -/
def Obligations.MapWriteSetsARunOfChannels : Prop :=
  (∀ k : ObsKind, obsOfCode (obsCode k) = some k) ∧ obsOfCode 0 = none
  ∧ ∀ (r : Request) (s : State), takes 15 r s → s.inHand.intake = none →
    ((arg r.args 1).toNat < 1 ∨ 16 < (arg r.args 0).toNat + (arg r.args 1).toNat →
      exec (.mapWrite r) s = .next (answered r.tag 15 .range false [] s))
    ∧ (1 ≤ (arg r.args 1).toNat → (arg r.args 0).toNat + (arg r.args 1).toNat ≤ 16 →
      (∃ w ∈ r.args.drop 2, 12 < bits w 12 4) → exec (.mapWrite r) s = .next (answered r.tag 15 .range false [] s))
    ∧ (1 ≤ (arg r.args 1).toNat → (arg r.args 0).toNat + (arg r.args 1).toNat ≤ 16 →
      (∀ w ∈ r.args.drop 2, bits w 12 4 ≤ 12) →
      ∃ m : Vector MapEntry 16,
        (∀ n : Fin 16, m.get n =
          if (arg r.args 0).toNat ≤ n.val ∧ n.val < (arg r.args 0).toNat + (arg r.args 1).toNat then
            { kind := obsOfCode (bits (arg r.args (2 + n.val - (arg r.args 0).toNat)) 12 4)
              offset := clamp (-128) 127 (signedField 12 (bits (arg r.args (2 + n.val - (arg r.args 0).toNat)) 0 12)) }
          else s.ti.map.get n)
        ∧ exec (.mapWrite r) s = .next (answered r.tag 15
            (if ∀ w ∈ r.args.drop 2, -128 ≤ signedField 12 (bits w 0 12) ∧ signedField 12 (bits w 0 12) ≤ 127 then .ok
              else .clamped) false
            (arg r.args 0 :: arg r.args 1 :: mapRun m (arg r.args 0).toNat (arg r.args 1).toNat)
            (s.withTi { s.ti with map := m })))

/-- STATE READ (R179): a code outside 0..4 is refused RANGE; else the words of the one section, in payloads of 10, 13, 21,
31 and 25 words, and with nothing in hand the read changes nothing but the response. Of items within their ranges each word
and bit of a section gives the item that the table of R179 names for it. The point bit with no flip pending is free
(assumption log entry 25). -/
def Obligations.StateReadReturnsOneSection : Prop :=
  (∀ (r : Request) (s : State), takes 17 r s → nothingInHand s →
    (4 < (arg r.args 0).toNat → exec (.stateRead r) s = .next (answered r.tag 17 .range false [] s))
    ∧ (∀ ws : List Word,
        ((arg r.args 0).toNat = 0 ∧ ws = s.generalWords) ∨ ((arg r.args 0).toNat = 1 ∧ ws = s.thermalWords)
          ∨ ((arg r.args 0).toNat = 2 ∧ ws = s.chainWords 0 ++ s.chainWords 1 ++ s.chainWords 2 ++ s.chainWords 3)
          ∨ ((arg r.args 0).toNat = 3 ∧ ws = s.supplyWords)
          ∨ ((arg r.args 0).toNat = 4 ∧ ws = (obsAll.map fun k => (s.obsOf k).words).flatten) →
        exec (.stateRead r) s = .next (answered r.tag 17 .ok false ws s)
          ∧ some (ws.length + 1) = [10, 13, 21, 31, 25][(arg r.args 0).toNat]?))
  ∧ (∀ (s : State) (w : Nat → Word), (∀ k, w k = s.generalWords.getD k 0) → paramsInRange s →
      bits (w 0) 0 2 = s.ge.mode.code ∧ bit (w 0) 2 = (s.ge.stream == .quiet) ∧ bit (w 0) 3 = s.cb.flip.isSome
      ∧ (∀ p, s.cb.flip = some p → bits (w 0) 4 1 = p.code) ∧ bits (w 0) 5 1 = s.cb.active.val
      ∧ bit (w 0) 6 = !s.ol.store.isEmpty ∧ (bits (w 0) 8 3 : Int) = s.param .tickCode
      ∧ (s.ge.quietCount ≤ 255 → (w 1).toNat = s.ge.quietCount)
      ∧ (s.tg.counter ≤ 16777215 → (w 2).toNat * 65536 + (w 3).toNat = s.tg.counter)
      ∧ (logSound s → (w 4).toNat = s.ol.fill ∧ (w 5).toNat = s.ol.lost ∧ (w 6).toNat = s.ol.firstLoss)
      ∧ (w 7).toNat = s.nu.pending.toNat
      ∧ (s.rh.softCount ≤ 255 → bits (w 8) 0 2 = s.rh.cause.code ∧ bits (w 8) 8 8 = s.rh.softCount))
  ∧ (∀ (s : State) (w : Nat → Word), (∀ k, w k = s.thermalWords.getD k 0) → thermalSound s →
      -160 ≤ s.boardRef → s.boardRef ≤ 600 →
      (w 0).toInt = s.boardRef ∧ (w 1).toNat = (if s.isFresh .board then 0 else 1)
      ∧ ∀ (m : Module) (k : Nat), k = (if m = .a then 2 else 7) →
          (w k).toNat = (s.te.get m).rise ∧ (w (k + 1)).toInt = s.thetaEst m ∧ (w (k + 2)).toNat = (s.te.get m).zone.code
          ∧ (w (k + 3)).toNat * 65536 + (w (k + 4)).toNat = (s.te.get m).heat)
  ∧ (∀ (s : State) (c : Chain) (r : ChainRecord) (m : SlewMemory) (w : Nat → Word),
      (∀ k, w k = (s.chainWords 0 ++ s.chainWords 1 ++ s.chainWords 2 ++ s.chainWords 3).getD (5 * c.val + k) 0 ∨ 5 ≤ k) →
      r = s.ms.get c → m = s.ge.slew.get c → chainSound r = true → m.age ≤ 255 → -512 ≤ r.lastRL → r.lastRL ≤ 340 →
      -200 ≤ m.last → m.last ≤ 140 →
      bits (w 0) 0 2 = r.state.code ∧ bits (w 0) 2 4 = r.confirm ∧ bit (w 0) 6 = r.improving ∧ bit (w 0) 7 = r.probe
      ∧ bit (w 0) 8 = m.valid ∧ bits (w 1) 8 8 = r.recovery ∧ bits (w 1) 0 8 = r.severe ∧ bits (w 2) 8 8 = r.park
      ∧ bits (w 2) 0 8 = m.age ∧ (w 3).toInt = r.lastRL ∧ (w 4).toInt = m.last)
  ∧ (∀ (s : State) (w : Nat → Word), (∀ k, w k = s.supplyWords.getD k 0) → windowSound s →
      0 ≤ s.baseAllowance → s.baseAllowance ≤ 8191 → 0 ≤ s.allowance → s.allowance ≤ 8191 →
      bits (w 0) 0 1 = s.sa.charge.code
      ∧ bit (w 0) 1 = (s.cb.activeBank.header.supply == .none || !s.isFresh .battV)
      ∧ (w 1).toNat * 65536 + (w 2).toNat = s.sa.windowSum ∧ (w 3).toNat = s.sa.counter
      ∧ ((w 4).toNat : Int) = s.baseAllowance ∧ ((w 5).toNat : Int) = s.allowance
      ∧ ∀ j : Fin 8,
          s.sa.buckets.get ⟨2 * j.val, by omega⟩ = (w (6 + 3 * j.val)).toNat * 256 + bits (w (7 + 3 * j.val)) 8 8
          ∧ s.sa.buckets.get ⟨2 * j.val + 1, by omega⟩
            = bits (w (7 + 3 * j.val)) 0 8 * 65536 + (w (8 + 3 * j.val)).toNat)
  ∧ ∀ (s : State) (k : ObsKind) (o : Observation) (w : Nat → Word),
      (∀ j, w j = ((obsAll.map fun k => (s.obsOf k).words).flatten).getD j 0) → o = s.obsOf k → o.fresh ≤ 255 →
      -200 ≤ o.value → o.value ≤ 4095 →
      (w (2 * (obsCode k - 1))).toInt = o.value ∧ bits (w (2 * (obsCode k - 1) + 1)) 0 8 = o.fresh
        ∧ bit (w (2 * (obsCode k - 1) + 1)) 8 = o.saturated

/-- NOTICE CLEAR (R163): a mask that names a bit above 9 is refused RANGE; else the named classes leave the pending set,
in either mode, and no NOTICE that waits, no enable bit and nothing else changes. -/
def Obligations.NoticeClearRemovesPendingClasses : Prop :=
  ∀ (r : Request) (s : State), takes 20 r s →
    (1023 < (arg r.args 0).toNat → exec (.noticeClear r) s = .next (answered r.tag 20 .range false [] s))
    ∧ ((arg r.args 0).toNat ≤ 1023 → ∃ p : ClassSet,
        (∀ k, k < 10 → p.getLsbD k = (s.nu.pending.getLsbD k && !bit (arg r.args 0) k))
        ∧ exec (.noticeClear r) s
            = .next (answered r.tag 20 .ok false [] (s.withNu { s.nu with pending := p })))

/-! ### Resets -/

/-- SOFT RESET (R160, R164, R172, R181, R183, with nothing in hand): every block takes its reset values, the cause is
SOFT and the count one more, at most 255; the response is the only frame of the insert queue, both receivers are
SEEKING, and frames received whole or being sent are kept; the log keeps its records and loss data, under OVERWRITE, and
gains a RESET record; no class is pending but the LOSS or the WATERMARK that this record itself raises. -/
def Obligations.SoftResetKeepsTheLogAndTheFrames : Prop :=
  ∀ (r : Request) (s : State), takes 21 r s → nothingInHand s → logSound s →
    ∃ t, exec (.softReset r) s = .next t ∧ resetValues t
      ∧ t.rh.cause = .soft ∧ t.rh.softCount = min 255 (s.rh.softCount + 1)
      ∧ t.li.insert = [.response r.tag [statusWord 21 .ok false, Word.ofNatural (min 255 (s.rh.softCount + 1) * 256 + 2)]]
      ∧ t.li.rxDown = .seeking ∧ t.li.rxUp = .seeking ∧ t.li.lastServed = .transit ∧ t.li.transit = s.li.transit
      ∧ t.li.downPath = s.li.downPath ∧ t.li.outUp = s.li.outUp ∧ t.li.outDown = s.li.outDown
      ∧ newest t = some (.reset .soft 0)
      ∧ (s.ol.fill + 1 ≤ 512 → t.ol.store = s.ol.store ++ [.reset .soft 0] ∧ t.ol.fill = s.ol.fill + 1
          ∧ t.ol.lost = s.ol.lost ∧ t.ol.firstLoss = s.ol.firstLoss)
      ∧ (s.ol.fill = 512 → ∃ x rest, s.ol.store = x :: rest ∧ t.ol.store = rest ++ [.reset .soft 0]
          ∧ t.ol.lost = min 65535 (s.ol.lost + 1))
      ∧ t.ol.grantCounter = 0 ∧ (∀ k : Fin 12, t.ol.readingCounters.get k = 0) ∧ t.nu.owed = false
      ∧ t.nu.pending = ((if s.ol.fill = 512 ∧ s.ol.lost = 0 then NoticeClass.loss.bit else 0)
          ||| if s.ol.fill = 383 then NoticeClass.watermark.bit else 0)
      ∧ t.li.wordUp = s.li.wordUp ∧ t.li.wordDown = s.li.wordDown
      ∧ t.pins = s.pins ∧ t.pending = s.pending

/-- The power-on and pin resets (R160, R172, R181, R182): each release that is the last leaves the part as it is right
after power-on, with its own cause in the record and the RESET record, the count cleared by the power-on reset and kept by
the pin reset; while either reset holds, the part stands at its reset values with an empty log, and the other release ends
nothing. The count and cause while a reset holds are the model's reading (assumption log entry 12). -/
def Obligations.PinAndSupplyResetsHoldAndRelease : Prop :=
  ∀ s : State,
    (s.pins.resetLow = false →
      exec .powerOnReset s
        = .next { State.reset with pins := { s.pins with supplyOut := false }, pending := s.pending })
    ∧ (s.pins.supplyOut = false →
      exec .pinResetRelease s
        = .next { State.reset with
            rh := { params := defaultParams, cause := .pin, softCount := s.rh.softCount }
            ol := { State.reset.ol with store := [.reset .pin 0] }
            pins := { s.pins with resetLow := false }
            pending := s.pending })
    ∧ exec .supplyOutOfRange s
        = .next { State.reset with
            rh := { params := defaultParams, cause := s.rh.cause, softCount := 0 }
            ol := ObservationLog.reset
            pins := { s.pins with supplyOut := true }
            pending := s.pending }
    ∧ exec .pinResetAssert s
        = .next { State.reset with
            rh := { params := defaultParams, cause := s.rh.cause, softCount := s.rh.softCount }
            ol := ObservationLog.reset
            pins := { s.pins with resetLow := true }
            pending := s.pending }
    ∧ (s.pins.resetLow = true →
      exec .powerOnReset s
        = .next { State.reset with
            rh := { params := defaultParams, cause := s.rh.cause, softCount := 0 }
            ol := ObservationLog.reset
            pins := { s.pins with supplyOut := false }
            pending := s.pending })
    ∧ (s.pins.supplyOut = true →
      exec .pinResetRelease s
        = .next { State.reset with
            rh := { params := defaultParams, cause := s.rh.cause, softCount := s.rh.softCount }
            ol := ObservationLog.reset
            pins := { s.pins with resetLow := false }
            pending := s.pending })

/-! ### Ticks -/

/-- A tick (R149, R151): producing one numbers it modulo 2^24 and gives each block its work to take; each listed block takes
its work once, in the listed order, as if brought to it alone, and a block that owes no work does nothing. While a reset
holds or the reference clock is absent no tick is produced and none is taken (R146, R182). When the clock stops, a tick
already produced reaches its blocks first, so that no work is owed while it is absent; stopping it with no work owed, and
resuming it, change nothing else. The operands of the row, and that a stop ends the tick in hand, are the model's
(assumption log entries 3 and 11). -/
def Obligations.TicksAreNumberedAndTakenOnce : Prop :=
  ∀ s : State,
    (s.held = false → s.pins.refclkAbsent = false → s.inHand.tick = InHand.reset.tick →
      exec (.tick .produce []) s
        = .next ((s.withTg { prescaler := 0, divider := 0, counter := (s.tg.counter + 1) % 16777216 }).withInHand
            { s.inHand with tick := { te := true, ti := true, ms := true, sa := true, ge := true, ordered := false } }))
    ∧ (∀ bs, s.held = false → s.pins.refclkAbsent = false →
      exec (.tick .produce bs) s = execAll (.tick .produce [] :: bs.map fun b => .tick .deliver [b]) s)
    ∧ (∀ b, s.held = false → s.pins.refclkAbsent = false → s.inHand.tick.get b = true →
      exec (.tick .deliver [b]) s = .next ((s.withInHand { s.inHand with tick := s.inHand.tick.taken b }).blockWork b))
    ∧ (∀ b, s.inHand.tick.get b = false → exec (.tick .deliver [b]) s = .next s)
    ∧ (∀ phase bs, s.pins.refclkAbsent = true → exec (.tick phase bs) s = .next s)
    ∧ (∀ phase bs, s.held = true → exec (.tick phase bs) s = .next s)
    ∧ (s.inHand.tick.any = false → exec .refclkStop s = .next (s.withPins { s.pins with refclkAbsent := true }))
    ∧ (s.pins.refclkAbsent = false → ∃ t, exec .refclkStop s = .next t ∧ t.inHand.tick.any = false
        ∧ t.pins = { s.pins with refclkAbsent := true } ∧ t.tg = s.tg ∧ t.rh = s.rh ∧ t.cs = s.cs ∧ t.pending = s.pending)
    ∧ exec .refclkResume s = .next (s.withPins { s.pins with refclkAbsent := false })

/-- The tick update of the Thermal Estimator (R35, R36): each new rise is the old less floor(rise × α / 256) plus
floor(effective heat × β / 65536), clamped to 0..1023, both effective heats taken from the accumulators as they stood;
both accumulators become 0 and both zones are evaluated, A before B. Only the estimator, the log, the notices and the
insert queue change. A zone evaluation (R43, R44): with rising thresholds, a temperature at or above the threshold of a
zone above the present one raises the zone to the highest such; else the zone falls, step by step, past each zone whose
threshold less the hysteresis the temperature lies below; it ends in a zone that it would not leave again (R45). A
change writes one ZONE record, the newest of a log in OVERWRITE, with the module, both zones, the temperature and the
tick count, and raises ZONE; without a change nothing is written or raised (R46). -/
def Obligations.TickUpdateCoolsAndHeats : Prop :=
  (∀ s : State, paramsInRange s → s.held = false → s.pins.refclkAbsent = false → s.inHand.tick.te = true →
    ∃ t, exec (.tick .deliver [.te]) s = .next t
      ∧ (∀ m n : Module, m ≠ n →
          ((t.te.get m).rise : Int) = clamp 0 1023 ((s.te.get m).rise - (s.te.get m).rise * s.param .alpha / 256
            + min 1048575 ((s.te.get m).heat + (s.te.get n).heat * s.param .kappa / 256) * s.param .beta / 65536)
          ∧ (t.te.get m).heat = 0
          ∧ (t.te.get m).zone = nextZone (s.boardRef + (t.te.get m).rise) (s.param .warm) (s.param .hot)
              (s.param .critical) (s.param .zoneHysteresis) (s.te.get m).zone
          ∧ ((t.te.get m).zone ≠ (s.te.get m).zone → raised .zone t))
      ∧ t = (({ s with
          te := { a := { t.te.a with zone := s.te.a.zone }, b := { t.te.b with zone := s.te.b.zone } }
          inHand := { s.inHand with tick := { s.inHand.tick with te := false } } } : State).evalZone .a).evalZone .b
      ∧ logsOnly { s with te := t.te, inHand := { s.inHand with tick := { s.inHand.tick with te := false } } } t)
  ∧ (∀ (θ warm hot critical hyst : Int) (z r : Zone), warm < hot → hot < critical → 0 ≤ hyst →
      r = nextZone θ warm hot critical hyst z →
      (critical ≤ θ → r = .critical)
      ∧ (hot ≤ θ → θ < critical → z ≠ .critical → r = .hot)
      ∧ (warm ≤ θ → θ < hot → z = .cool ∨ z = .warm → r = .warm)
      ∧ (θ < warm → z = .cool → r = .cool)
      ∧ (θ < warm → z = .warm → r = if warm - hyst ≤ θ then .warm else .cool)
      ∧ (θ < hot → z = .hot → r = if hot - hyst ≤ θ then .hot else if warm - hyst ≤ θ then .warm else .cool)
      ∧ (θ < critical → z = .critical → r = if critical - hyst ≤ θ then .critical else if hot - hyst ≤ θ then .hot
          else if warm - hyst ≤ θ then .warm else .cool)
      ∧ nextZone θ warm hot critical hyst r = r)
  ∧ ∀ (m : Module) (s t : State) (θ : Int) (old new : Zone), θ = s.boardRef + (s.te.get m).rise → old = (s.te.get m).zone →
      new = nextZone θ (s.param .warm) (s.param .hot) (s.param .critical) (s.param .zoneHysteresis) old → t = s.evalZone m →
      (new = old → t = s)
      ∧ (new ≠ old → (∀ n : Module, t.te.get n = { s.te.get n with zone := if n = m then new else (s.te.get n).zone })
          ∧ (s.param .logMode = 1 → newest t = some (.zone m old new θ s.stamp)) ∧ raised .zone t
          ∧ logsOnly { s with te := t.te } t)

/-- SLEW_EXPIRY and STREAM_QUIET, the tick work of the Grant Engine when it brings the event about (R16, R28, R125): the
ages of valid memories rise and those at the expiry value become not valid, the quiet count rises while LIVE, and at
quiet ticks the stream becomes QUIET and a pending QUIET flip is applied whole: banks, slew memory, absent chains, FLIP
record and class (R126). At any other tick of the engine the ages and the quiet count rise in the same way and nothing
else changes. A tick produced before the last slot order does not count toward QUIET, even where its work is taken after
that order (R152; assumption log entry 27). While the reference clock is absent nothing occurs (R146), and when the
engine owes no tick work nothing occurs, by the model's choice (assumption log entry 5). -/
def Obligations.GrantEngineRowsTakeItsTickWork : Prop :=
  ∀ (c : Chain) (s : State),
    (s.inHand.tick.ge = false ∨ s.pins.refclkAbsent = true → exec (.slewExpiry c) s = .next s ∧ exec .streamQuiet s = .next s)
    ∧ (s.inHand.tick.ge = true → s.pins.refclkAbsent = false → (s.ge.slew.get c).valid = true →
        s.param .slewExpiry ≤ (s.ge.slew.get c).age + 1 →
        ∃ t, exec (.slewExpiry c) s = .next t ∧ (t.ge.slew.get c).valid = false
          ∧ (t.ge.slew.get c).last = (s.ge.slew.get c).last
          ∧ (s.ge.stream = .quiet ∨ s.inHand.tick.ordered = true ∨ (s.ge.quietCount : Int) + 1 < s.param .quietTicks →
              (∀ d : Chain, t.ge.slew.get d = if (s.ge.slew.get d).valid then
                  { last := (s.ge.slew.get d).last, age := (s.ge.slew.get d).age + 1,
                    valid := decide (((s.ge.slew.get d).age : Int) + 1 < s.param .slewExpiry) }
                else s.ge.slew.get d)
              ∧ t = { s with
                  inHand := { s.inHand with tick := { s.inHand.tick with ge := false, ordered := false } }
                  ge := { s.ge with
                    slew := t.ge.slew
                    quietCount := if s.ge.stream = .live ∧ s.inHand.tick.ordered = false then s.ge.quietCount + 1
                      else s.ge.quietCount } }))
    ∧ (s.held = false → s.inHand.tick.ge = true → s.pins.refclkAbsent = false →
        s.ge.stream = .quiet ∨ s.inHand.tick.ordered = true ∨ (s.ge.quietCount : Int) + 1 < s.param .quietTicks →
        ∃ t, exec (.tick .deliver [.ge]) s = .next t
          ∧ (∀ d : Chain, t.ge.slew.get d = if (s.ge.slew.get d).valid then
              { last := (s.ge.slew.get d).last, age := (s.ge.slew.get d).age + 1,
                valid := decide (((s.ge.slew.get d).age : Int) + 1 < s.param .slewExpiry) }
            else s.ge.slew.get d)
          ∧ t = { s with
              inHand := { s.inHand with tick := { s.inHand.tick with ge := false, ordered := false } }
              ge := { s.ge with
                slew := t.ge.slew
                quietCount := if s.ge.stream = .live ∧ s.inHand.tick.ordered = false then s.ge.quietCount + 1
                  else s.ge.quietCount } })
    ∧ (s.held = false → ((s.ge.slew.get c).valid = true → s.param .slewExpiry ≤ (s.ge.slew.get c).age + 1 →
          exec (.slewExpiry c) s = exec (.tick .deliver [.ge]) s)
        ∧ (s.inHand.tick.ordered = false → s.ge.stream = .live → s.param .quietTicks ≤ s.ge.quietCount + 1 →
          exec .streamQuiet s = exec (.tick .deliver [.ge]) s))
    ∧ (s.inHand.tick.ordered = true → exec .streamQuiet s = .next s)
    ∧ (s.held = false → s.inHand.tick.ge = true → s.pins.refclkAbsent = false → s.inHand.tick.ordered = true →
        ∃ t, exec (.tick .deliver [.ge]) s = .next t ∧ t.ge.stream = s.ge.stream ∧ t.ge.quietCount = s.ge.quietCount
          ∧ t.cb = s.cb ∧ t.inHand.tick = { s.inHand.tick with ge := false, ordered := false })
    ∧ (s.inHand.tick.ge = true → s.pins.refclkAbsent = false → s.inHand.tick.ordered = false → s.ge.stream = .live →
        s.param .quietTicks ≤ s.ge.quietCount + 1 →
        ∃ t, exec .streamQuiet s = .next t ∧ t.ge.stream = .quiet ∧ t.ge.quietCount = s.ge.quietCount + 1
          ∧ t.ge.mode = s.ge.mode
          ∧ (s.cb.flip ≠ some .quiet →
              t = { s with
                inHand := { s.inHand with tick := { s.inHand.tick with ge := false, ordered := false } }
                ge := t.ge }
              ∧ ∀ d : Chain, (t.ge.slew.get d).valid = true → (s.ge.slew.get d).valid = true
                  ∧ (t.ge.slew.get d).age = (s.ge.slew.get d).age + 1)
          ∧ (s.cb.flip = some .quiet → t.cb = { s.cb with active := s.cb.standbyId, flip := none }
              ∧ (∀ d : Chain, t.ge.slew.get d = { last := (s.ge.slew.get d).last, valid := false, age := 0 })
              ∧ (∀ d : Chain, t.ms.get d
                  = if (s.cb.standbyBank.descriptor d).present then s.ms.get d else ChainRecord.reset)
              ∧ (s.param .logMode = 1 → newest t = some (.flip s.cb.standbyId .quiet s.stamp)) ∧ raised .flip t)
          ∧ ∃ u : State, t = (if s.cb.flip = some .quiet then u.applyFlip .quiet else u)
              ∧ u = { s with
                  inHand := { s.inHand with tick := { s.inHand.tick with ge := false, ordered := false } }
                  ge := { s.ge with slew := u.ge.slew, stream := .quiet, quietCount := s.ge.quietCount + 1 } }
              ∧ ∀ d : Chain, u.ge.slew.get d = if (s.ge.slew.get d).valid then
                  { last := (s.ge.slew.get d).last, age := (s.ge.slew.get d).age + 1,
                    valid := decide (((s.ge.slew.get d).age : Int) + 1 < s.param .slewExpiry) }
                else s.ge.slew.get d)

/-- WINDOW_ROTATION and OBSERVATION_STALE, the tick work of the Supply Allocator at its last count (R78, R79, R82) and
of the Telemetry Intake when a kind goes stale (R140, R33). At a rotation the oldest bucket leaves the sum, each bucket
moves one place, the open bucket is empty, the counter is reloaded and the charge state evaluated; a change writes its
CHARGE record (R84). At a counter above 1 tick work of the allocator lowers it by one and does nothing more. At the
ageing every fresh count above 0 falls by one, no value and no saturated flag changes, STALE is raised, each kind that
goes stale writes one STALE record, in order of kind code, and a stale BOARD gives way to the fallback; where no kind
goes stale the counts fall and nothing else changes. That the ZONE records of a stale BOARD come after all STALE records
of the tick is the model's reading (assumption log entry 9; R140 and R33 do not fix that order). The ageing is stated
with no telemetry frame in hand. An evaluation caps an OK state exactly when the sum is above the charge allowance, and
releases a CAPPED one exactly when the sum is at or below the allowance less its eighth, rounded down (R82). While the
reference clock is absent nothing occurs (R146), and when the block owes no tick work nothing occurs, by the model's
choice (assumption log entry 5). -/
def Obligations.WindowAndIntakeRowsTakeTheirTickWork : Prop :=
  (∀ sum allowance eighth : Int, 8 * eighth ≤ allowance → allowance < 8 * eighth + 8 →
    (nextCharge sum allowance .ok = .capped ↔ allowance < sum)
    ∧ (nextCharge sum allowance .capped = .ok ↔ sum ≤ allowance - eighth))
  ∧ ∀ (k : ObsKind) (s : State),
    (s.inHand.tick.sa = false ∨ s.pins.refclkAbsent = true → exec .windowRotation s = .next s)
    ∧ (s.inHand.tick.ti = false ∨ s.pins.refclkAbsent = true → exec (.observationStale k) s = .next s)
    ∧ (s.inHand.tick.sa = true → s.pins.refclkAbsent = false → s.sa.counter ≤ 1 →
        ∃ t, exec .windowRotation s = .next t
          ∧ (∀ i : Fin 15, t.sa.buckets.get ⟨i.val, by omega⟩ = s.sa.buckets.get ⟨i.val + 1, by omega⟩)
          ∧ t.sa.buckets.get 15 = 0 ∧ t.sa.windowSum = s.sa.windowSum - s.sa.buckets.get 0
          ∧ t.sa.counter = s.paramNat .windowTicks
          ∧ t.sa.charge = nextCharge (s.sa.windowSum - s.sa.buckets.get 0 : Nat) (s.param .chargeAllowance) s.sa.charge
          ∧ (t.sa.charge ≠ s.sa.charge → raised .charge t)
          ∧ (t.sa.charge ≠ s.sa.charge → s.param .logMode = 1 →
              newest t = some (.charge s.sa.charge t.sa.charge t.sa.windowSum s.stamp))
          ∧ (t.sa.charge = s.sa.charge → t.ol = s.ol ∧ t.nu = s.nu ∧ t.li = s.li)
          ∧ logsOnly { s with sa := t.sa, inHand := { s.inHand with tick := { s.inHand.tick with sa := false } } } t)
    ∧ (s.held = false → s.inHand.tick.sa = true → s.pins.refclkAbsent = false →
        (2 ≤ s.sa.counter → exec (.tick .deliver [.sa]) s = .next { s with
            sa := { s.sa with counter := s.sa.counter - 1 }
            inHand := { s.inHand with tick := { s.inHand.tick with sa := false } } })
        ∧ (s.sa.counter ≤ 1 → exec (.tick .deliver [.sa]) s = exec .windowRotation s))
    ∧ (s.held = false → s.inHand.tick.ti = true → s.pins.refclkAbsent = false → s.inHand.intake = none →
        ((s.obsOf k).fresh = 1 → exec (.tick .deliver [.ti]) s = exec (.observationStale k) s)
        ∧ ((∀ j : ObsKind, (s.obsOf j).fresh ≠ 1) → ∃ t, exec (.tick .deliver [.ti]) s = .next t
            ∧ (∀ j : ObsKind, t.obsOf j
                = { value := (s.obsOf j).value, fresh := (s.obsOf j).fresh - 1, saturated := (s.obsOf j).saturated })
            ∧ t = { s with
                ti := { s.ti with obs := t.ti.obs }
                inHand := { s.inHand with tick := { s.inHand.tick with ti := false } } }))
    ∧ (s.inHand.tick.ti = true → s.pins.refclkAbsent = false → s.inHand.intake = none → (s.obsOf k).fresh = 1 →
        ∃ t, exec (.observationStale k) s = .next t
          ∧ (∀ j : ObsKind, t.obsOf j
              = { value := (s.obsOf j).value, fresh := (s.obsOf j).fresh - 1, saturated := (s.obsOf j).saturated })
          ∧ raised .stale t ∧ t.ti.map = s.ti.map
          ∧ (logSound s → s.param .logMode = 1 → ∃ kept zones, kept <:+ s.ol.store
              ∧ t.ol.store = kept ++ (obsAll.filter fun j => (s.obsOf j).fresh == 1).map (fun j => .stale true j s.stamp) ++ zones
              ∧ ∀ x ∈ zones, ∃ m old new, x = .zone m old new (t.thetaEst m) s.stamp)
          ∧ (∀ m : Module, (t.te.get m).rise = (s.te.get m).rise ∧ (t.te.get m).heat = (s.te.get m).heat)
          ∧ (k ≠ .board → (s.obsOf .board).fresh ≠ 1 → t.te = s.te)
          ∧ (k = .board → t.boardRef = s.param .boardFallback
              ∧ ∀ m : Module, (t.te.get m).zone
                  = nextZone (s.param .boardFallback + (s.te.get m).rise) (s.param .warm) (s.param .hot)
                      (s.param .critical) (s.param .zoneHysteresis) (s.te.get m).zone)
          ∧ logsOnly { s with
              ti := t.ti
              te := t.te
              inHand := { s.inHand with tick := { s.inHand.tick with ti := false } } } t)

/-- RECOVERY, PARKING and PARK_RELEASE, the tick work of the Mismatch Supervisor when it brings the event about (R60 to
R62, R65): recovery is tested before parking, the named chain moves one step better, parks with its timer loaded, or
returns DETUNED with the probe flag, its counts 0 and its last RL kept, and the class is raised; each other chain takes
its own tick work, as it would alone (R54). At any tick of the supervisor a MATCHED chain does not change, the recovery
count of a DETUNED or SEVERE one rises while it is improving, the severe timer of a SEVERE one rises and the park timer
of a PARKED one falls. Each chain whose state changes writes one MISMATCH record with its last RL and the tick count, in
chain order, and with no change of state nothing is written or raised (R65). While the reference clock is absent nothing
occurs (R146), and when the supervisor owes no tick work nothing occurs, by the model's choice (assumption log entry 5).
-/
def Obligations.MismatchRowsTakeTheTickWork : Prop :=
  ∀ (c : Chain) (s : State),
    (s.inHand.tick.ms = false ∨ s.pins.refclkAbsent = true →
      exec (.recovery c) s = .next s ∧ exec (.parking c) s = .next s ∧ exec (.parkRelease c) s = .next s)
    ∧ (∀ i : Instr, s.inHand.tick.ms = true → s.pins.refclkAbsent = false →
        (i = .recovery c ∧ s.recoveryDue c = true ∨ i = .parking c ∧ s.parkingDue c = true
          ∨ i = .parkRelease c ∧ s.releaseDue c = true ∨ i = .tick .deliver [.ms] ∧ s.held = false) →
        ∃ t, exec i s = .next t ∧ (i ≠ .tick .deliver [.ms] → raised .mismatch t)
          ∧ ((∃ d : Chain, (t.ms.get d).state ≠ (s.ms.get d).state) → raised .mismatch t)
          ∧ ((∀ d : Chain, (t.ms.get d).state = (s.ms.get d).state) → t = { s with
              ms := t.ms
              inHand := { s.inHand with tick := { s.inHand.tick with ms := false } } })
          ∧ (logSound s → s.param .logMode = 1 → ∃ kept, kept <:+ s.ol.store ∧ t.ol.store = kept
              ++ (([0, 1, 2, 3] : List Chain).filter fun d => (t.ms.get d).state != (s.ms.get d).state).map fun d =>
                .mismatch d (s.ms.get d).state (t.ms.get d).state (s.ms.get d).lastRL s.stamp)
          ∧ (∀ d : Chain, t.ms.get d = (s.tickChain d).ms.get d)
          ∧ logsOnly { s with ms := t.ms, inHand := { s.inHand with tick := { s.inHand.tick with ms := false } } } t)
    ∧ (∀ r : ChainRecord, r = s.ms.get c → r.improving = true → s.param .recoverTicks ≤ r.recovery + 1 →
        (r.state = .severe → (s.tickChain c).ms.get c = { ChainRecord.reset with state := .detuned, lastRL := r.lastRL })
        ∧ (r.state = .detuned → (s.tickChain c).ms.get c = { ChainRecord.reset with lastRL := r.lastRL }))
    ∧ (∀ d : Chain, d ≠ c → (s.tickChain c).ms.get d = s.ms.get d)
    ∧ (∀ r : ChainRecord, r = s.ms.get c →
        (r.state = .matched → s.tickChain c = s)
        ∧ (r.state = .detuned → r.improving = false ∨ (r.recovery : Int) + 1 < s.param .recoverTicks →
          (s.tickChain c).ms.get c = { r with recovery := if r.improving then r.recovery + 1 else r.recovery }))
    ∧ (∀ r : ChainRecord, r = s.ms.get c → r.state = .severe →
        r.improving = false ∨ (r.recovery : Int) + 1 < s.param .recoverTicks →
        (s.param .severeLimit ≤ r.severe + 1 → (s.tickChain c).ms.get c
          = { ChainRecord.reset with state := .parked, park := s.paramNat .parkTicks, lastRL := r.lastRL })
        ∧ ((r.severe : Int) + 1 < s.param .severeLimit → (s.tickChain c).ms.get c
          = { r with severe := r.severe + 1, recovery := if r.improving then r.recovery + 1 else r.recovery }))
    ∧ (∀ r : ChainRecord, r = s.ms.get c → r.state = .parked →
        (r.park ≤ 1 → (s.tickChain c).ms.get c
          = { ChainRecord.reset with state := .detuned, probe := true, lastRL := r.lastRL })
        ∧ (2 ≤ r.park → (s.tickChain c).ms.get c = { r with park := r.park - 1 }))

/-! ### Slot orders -/

/-- A slot order with a good check and length (R1, R2, R25 to R29): a pending FRAME flip is applied first at a frame
start; the order is then governed in the mode in force, queued with its outgoing powers, and accounted: heat to each
module, one charge to the open bucket, the sum over the entries of the share of the duration of each one's current
(R26), with one evaluation, slew memory for the grants that go out in ACTIVE and MONITOR, and none in FIXED; the stream
is LIVE with quiet count 0. That a tick already produced will not count after it is the model's reading of R152
(assumption log entry 27). A reduced order counts once in the downsampling and writes its GRANT record of the changed
entries when the count keeps it or a matched rule's log-always forces it, and any other order writes none (R22, R157).
In FIXED and ACTIVE with grant notes ON a reduced order places its GRANT NOTE when the queue, as the record left it,
holds 0 to 2 frames, and otherwise no note is placed (R23, R169); that the note meets the queue as the record left it,
before the notices of SHED, FLOOR and CHARGE, is the model's reading (assumption log entry 21). In ACTIVE a final SHED
or FLOOR raises its class, and no other order raises it, in any mode (R24). A change of the charge state writes its
CHARGE record after the GRANT record and raises CHARGE (R84); nothing else is logged. -/
def Obligations.GovernedOrdersAreSentAndAccounted : Prop :=
  (∀ (s : State) (x : Int) (q n : Nat) (gs : List Grant),
    s.evalRef .none x = 0 ∧ (∀ k : Fin 16, s.evalRef (.slot k) x = s.cs.eval k x) ∧ slotShare q n = q * n / 14
    ∧ changedEntries gs = (gs.filter fun g => g.value != g.entry.request).map fun g =>
        { chain := g.entry.chain, reason := g.reason, value := g.value })
  ∧ ∀ (b : FrameBody) (s s1 v u : State) (f : Frame) (gs : List Grant) (outs : List (Chain × Power)) (d : Nat)
    (note : List Word),
    f = bodyFrame kindSlotOrder b → arrivesDown f s → checkGood f = true → orderLengthGood f.payload.length = true →
    thermalSound s →
    s1 = (if frameStart f.payload = true ∧ s.cb.flip = some .frame then (heard s).applyFlip .frame else heard s) →
    gs = s1.grants (readEntries (f.payload.drop 1)) → outs = gs.map (fun g => (g.entry.chain, outgoing s.ge.mode g)) →
    d = readDuration (f.payload.getD 0 0) →
    v = s1.withOl { s1.ol with grantCounter := (s1.ol.grantCounter + 1) % 128 } →
    u = (if ∀ g ∈ gs, g.value = g.entry.request then s1
      else if (∃ g ∈ gs, g.logAlways = true) ∨ s1.ol.grantCounter % 2 ^ s.paramNat .grantDownsample = 0 then
        v.record (.grant (s.ge.mode == .monitor) (slotNumber f.payload) (changedEntries gs) s.stamp)
      else v) →
    note = Word.ofNatural (slotNumber f.payload) :: (changedEntries gs).map GrantEntry.word →
    ∃ t, exec (.slotOrder b) s = .next t
      ∧ t.li.downPath = s.li.downPath ++ [governedFrame f (outs.map Prod.snd)]
      ∧ (∀ m : Module, t.te.get m
          = { s.te.get m with heat := min 1048575 ((s.te.get m).heat + orderHeat s1 m d outs) })
      ∧ (∀ i : Fin 15, t.sa.buckets.get ⟨i.val, by omega⟩ = s.sa.buckets.get ⟨i.val, by omega⟩)
      ∧ t.sa.buckets.get 15 = s.sa.buckets.get 15 + min (orderLoad s1 d outs) (bucketMax - s.sa.buckets.get 15)
      ∧ t.sa.windowSum = s.sa.windowSum + min (orderLoad s1 d outs) (bucketMax - s.sa.buckets.get 15)
      ∧ t.sa.counter = s.sa.counter
      ∧ t.sa.charge = nextCharge t.sa.windowSum (s.param .chargeAllowance) s.sa.charge
      ∧ t.ge.mode = s.ge.mode ∧ t.ge.stream = .live ∧ t.ge.quietCount = 0
      ∧ (s.ge.mode = .fixed → t.ge.slew = s1.ge.slew)
      ∧ (s.ge.mode ≠ .fixed → ∀ g ∈ gs, ∀ q, g.value = .on q →
          t.ge.slew.get g.entry.chain = { last := q, valid := true, age := 0 })
      ∧ (∀ c : Chain, (∀ g ∈ gs, g.entry.chain = c → g.value = .off) → t.ge.slew.get c = s1.ge.slew.get c)
      ∧ (t.sa.charge = s.sa.charge → t.ol = u.ol)
      ∧ (t.sa.charge ≠ s.sa.charge →
          t.ol = (u.record (.charge s.sa.charge t.sa.charge t.sa.windowSum s.stamp)).ol ∧ raised .charge t)
      ∧ (t.sa.charge = s.sa.charge → (∃ g ∈ gs, g.value ≠ g.entry.request) → s.param .logMode = 1 →
          (∃ g ∈ gs, g.logAlways = true) ∨ s1.ol.grantCounter % 2 ^ s.paramNat .grantDownsample = 0 →
          newest t = some (.grant (s.ge.mode == .monitor) (slotNumber f.payload) (changedEntries gs) s.stamp))
      ∧ ((∃ g ∈ gs, g.value ≠ g.entry.request) → s.ge.mode ≠ .monitor → s.param .grantNotes = 1 →
          u.li.insert.length ≤ 2 → .grantNote note ∈ t.li.insert)
      ∧ ((∀ g ∈ gs, g.value = g.entry.request) ∨ s.ge.mode = .monitor ∨ s.param .grantNotes ≠ 1 ∨ 3 ≤ u.li.insert.length →
          ∀ ws, GovFrame.grantNote ws ∈ t.li.insert → .grantNote ws ∈ s1.li.insert)
      ∧ (s.ge.mode = .active → (∃ g ∈ gs, g.reason = .shed) → raised .shed t)
      ∧ (s.ge.mode = .active → (∃ g ∈ gs, g.reason = .floor) → raised .floor t)
      ∧ (s.ge.mode ≠ .active ∨ (∀ g ∈ gs, g.reason ≠ .shed) → raised .shed t → raised .shed s1)
      ∧ (s.ge.mode ≠ .active ∨ (∀ g ∈ gs, g.reason ≠ .floor) → raised .floor t → raised .floor s1)
      ∧ t.inHand = { s.inHand with tick := { s.inHand.tick with ordered := s.inHand.tick.ge } }
      ∧ logsOnly { s1 with
          te := t.te
          sa := t.sa
          ge := t.ge
          inHand := t.inHand
          li := { s1.li with downPath := t.li.downPath } } t

/-- One entry of an order in FIXED mode (R6): a request for OFF stays OFF with reason NONE, a chain named before goes OFF
as DUPLICATE, and any other request goes out at the lesser of itself and the fixed ceiling, with reason FIXED when the
ceiling is lower. -/
def Obligations.FixedModeLimitsEachEntry : Prop :=
  ∀ (s : State) (es : List Entry), s.ge.mode = .fixed →
    (s.grants es).length = es.length
    ∧ ∀ (pre post : List Entry) (e : Entry), es = pre ++ e :: post →
      ∃ g, (s.grants es)[pre.length]? = some g ∧ g.entry = e ∧ outgoing .fixed g = g.value
        ∧ (e.request = .off → g.value = .off ∧ g.reason = .none)
        ∧ (∀ q, e.request = .on q → (∃ x ∈ pre, x.chain = e.chain) → g.value = .off ∧ g.reason = .duplicate)
        ∧ (∀ q, e.request = .on q → (∀ x ∈ pre, x.chain ≠ e.chain) →
            g.value = .on (min q (s.param .fixedCeiling))
            ∧ g.reason = if s.param .fixedCeiling < q then .fixed else .none)

/-- The laws of the outgoing powers (R9, R15, R21, R7): an entry requested OFF goes out OFF and no power exceeds its
request, in every mode; in MONITOR every entry goes out at its request; in ACTIVE a repeated, absent or parked chain goes
out OFF with that reason, in that order of tests, and a power above the least of its thermal, mismatch and rated ceilings,
or above the slew cap, is exactly the lesser of its chain's floor and its request. The first valid rule whose six tests
accept an entry supplies its action, else the header does (R10, R113, R114). An entry that passes screening takes the least
of its request and ceilings, the slew cap and the floor stage, with the reason of the last stage that set one (R11 to R15).
Current fitting serves the entries not OFF, anchors first, then by priority, then by chain, each at the first value in
steps of 4 not below its floor that fits the current left of the allowance, else it is shed or held (R17 to R19, R73). -/
def Obligations.OutgoingPowersObeyTheLaws : Prop :=
  (∀ (s : State) (es pre post : List Entry) (e : Entry), es = pre ++ e :: post →
    (s.grants es).length = es.length
    ∧ ∃ g, (s.grants es)[pre.length]? = some g ∧ g.entry = e
      ∧ (e.request = .off → outgoing s.ge.mode g = .off)
      ∧ (∀ q p, e.request = .on q → outgoing s.ge.mode g = .on p → p ≤ q)
      ∧ (s.ge.mode = .monitor → outgoing s.ge.mode g = e.request)
      ∧ (s.ge.mode = .active → ∀ q, e.request = .on q →
          ((∃ x ∈ pre, x.chain = e.chain) → g.value = .off ∧ g.reason = .duplicate)
          ∧ ((∀ x ∈ pre, x.chain ≠ e.chain) → (s.cb.activeBank.descriptor e.chain).present = false →
              g.value = .off ∧ g.reason = .absent)
          ∧ ((∀ x ∈ pre, x.chain ≠ e.chain) → (s.cb.activeBank.descriptor e.chain).present = true →
              (s.ms.get e.chain).state = .parked → g.value = .off ∧ g.reason = .parked)
          ∧ (∀ p, outgoing s.ge.mode g = .on p → leastCeiling s e < p →
              p = min (s.cb.activeBank.descriptor e.chain).floor q)
          ∧ (∀ p, outgoing s.ge.mode g = .on p → (s.ge.slew.get e.chain).valid = true →
              (s.ge.slew.get e.chain).last + (s.cb.activeBank.descriptor e.chain).rise < p →
              p = min (s.cb.activeBank.descriptor e.chain).floor q)
          ∧ (∀ p, outgoing s.ge.mode g = .on p → min (s.cb.activeBank.descriptor e.chain).floor q ≤ p))
      ∧ (s.ge.mode ≠ .fixed → ∃ w, (s.fitCurrent (s.stageEntries [] es))[pre.length]? = some w ∧ g.value = w.value
          ∧ g.logAlways = w.logAlways ∧ g.reason = if w.value = e.request then .none else w.reason)
      ∧ (s.stageEntries [] es)[pre.length]? = some (s.stageEntry (pre.map Entry.chain).reverse e))
  ∧ (∀ (s : State) (e : Entry),
      (∀ pre r post, s.cb.activeBank.rules.toList = pre ++ r :: post → governs s e r → (∀ x ∈ pre, ¬ governs s e x) →
        actionOf s e = { ceiling := r.ceiling, backoff := r.backoff, shed := r.shed, logAlways := r.logAlways })
      ∧ ((∀ r ∈ s.cb.activeBank.rules.toList, ¬ governs s e r) →
        actionOf s e = {
          ceiling := s.cb.activeBank.header.ceiling
          backoff := s.cb.activeBank.header.backoff
          shed := s.cb.activeBank.header.shed
          logAlways := false }))
  ∧ (∀ (s : State) (e : Entry) (earlier : List Chain) (q c l t m : Int) (d : Descriptor) (a : Action) (forbid : Bool)
      (w : Working), e.request = .on q → e.chain ∉ earlier → d = s.cb.activeBank.descriptor e.chain → d.present = true →
      (s.ms.get e.chain).state ≠ .parked → a = actionOf s e → t = s.thermalCeiling d a →
      m = s.mismatchCeiling e.chain d.rated → c = min (min q t) (min m d.rated) →
      l = (if (s.ge.slew.get e.chain).valid = true ∧ (s.ge.slew.get e.chain).last + d.rise < c then
          (s.ge.slew.get e.chain).last + d.rise else c) →
      forbid = (a.shed == .forbid || (a.shed == .default && e.anchor)) → w = s.stageEntry earlier e →
      (∀ n, a.ceiling = .slot n ∨ a.ceiling = .default ∧ d.ceiling = .slot n →
        t = s.cs.eval n (s.boardRef + (s.te.get d.module).rise) - a.backoff)
      ∧ (a.ceiling = .default → d.ceiling = .none → t = d.rated - a.backoff)
      ∧ (∀ x : Int, x = (match (s.ms.get e.chain).state with
            | .detuned => d.rated - s.param .detuneBackoff
            | .severe => d.rated - s.param .severeBackoff
            | _ => d.rated) →
          m = if (s.ms.get e.chain).probe then min x (s.param .probeCeiling) else x)
      ∧ w.entry = e ∧ w.desc = d ∧ w.forbid = forbid ∧ w.logAlways = a.logAlways
      ∧ (l < q → l < d.floor → forbid = false → w.value = .off ∧ w.reason = .shed)
      ∧ (l < q → l < d.floor → forbid = true → w.value = .on (min d.floor q) ∧ w.reason = .floor)
      ∧ (q ≤ l ∨ d.floor ≤ l → w.value = .on l
          ∧ w.reason = if l < c then .slew else if c = q then .none else if c = t then .thermal
              else if c = m ∧ m < d.rated then .mismatch else .rated))
  ∧ (∀ (s : State) (ws : List Working), oneWorkingPerChain ws →
      (s.fitCurrent ws).length = ws.length
      ∧ (∀ (j : Nat) (w : Working), ws[j]? = some w → w.value = .off → (s.fitCurrent ws)[j]? = some w)
      ∧ ∃ served : List (Working × Int),
          (served.map Prod.fst).Perm (ws.filter fun w => w.value != .off) ∧ (served.map Prod.fst).Pairwise servedBefore
          ∧ (∀ p, served.head? = some p → p.2 = s.allowance)
          ∧ ∀ (k : Nat) (w : Working) (left g q : Int), served[k]? = some (w, left) → w.value = .on g →
              w.entry.request = .on q →
              ∃ (v : Working) (after : Int), fits (s.evalRef w.desc.current) w g q left v after
                ∧ (∀ p, served[k + 1]? = some p → p.2 = after)
                ∧ ∀ j : Nat, ws[j]? = some w → (s.fitCurrent ws)[j]? = some v)
  ∧ ∀ (s : State) (base : Int), base = (match s.cb.activeBank.header.supply with
        | .none => s.param .supplyFallback
        | .slot n => if s.isFresh .battV then s.cs.eval n (s.obsOf .battV).value else s.param .supplyFallback) →
      s.allowance = if s.sa.charge = .capped then min base (s.param .sustainedCurrent) else base

/-! ### Telemetry -/

/-- A TELEMETRY frame and its readings (R130, R131, R136 to R139, R168): a frame with a bad check is not observed and
writes a LINK record CHECK; one with a good check has its words handled in order, at once or in as many parts as its
deliveries leave room for (assumption log entry 4), and either is then offered to the transit buffer. A word of a
channel with no kind changes nothing; a rail code sets the saturated flag alone; any other reading is compensated,
clamped, stored and refreshed, writes the STALE record FRESH and raises STALE when its kind was stale, is then offered
as a READING record, and is then delivered to the one consumer of its kind: a die temperature to the correction of its
module, BOARD to the evaluation of both zones, a reflected power to the Mismatch Supervisor, while a forward power and
BATT_V go no further (R139). The channel is bits 15..12 of a reading word and the raw value its other twelve, signed
(R171); the clamp is to the domain of the kind (section 7.2). -/
def Obligations.TelemetryIsObservedAndPassedOn : Prop :=
  (∀ (b : FrameBody) (now : Nat) (s : State), arrivesUp (bodyFrame kindTelemetry b) s → s.inHand.intake = none →
    (checkGood (bodyFrame kindTelemetry b) = false →
      exec (.telemetry (.frame b) now) s
        = .next (((s.setRx .upstream .seeking).linkFault .check).offerTransit (bodyFrame kindTelemetry b)))
    ∧ (checkGood (bodyFrame kindTelemetry b) = true → b.payload.length ≤ now →
      exec (.telemetry (.frame b) now) s
        = .next ((b.payload.foldl (fun t w => t.handleReading w) (s.setRx .upstream .seeking)).offerTransit
            (bodyFrame kindTelemetry b)))
    ∧ (checkGood (bodyFrame kindTelemetry b) = true → now < b.payload.length →
      exec (.telemetry (.frame b) now) s
        = .next (((b.payload.take now).foldl (fun t w => t.handleReading w) (s.setRx .upstream .seeking)).withInHand
            { s.inHand with intake := some { frame := bodyFrame kindTelemetry b, rest := b.payload.drop now } })))
  ∧ (∀ (n : Nat) (s : State), s.held = false →
    (s.inHand.intake = none → exec (.telemetry .further n) s = .next s)
    ∧ ∀ (f : Frame) (rest : List Word) (u : State), s.inHand.intake = some { frame := f, rest := rest } →
        u = s.withInHand { s.inHand with intake := none } →
        (rest.length ≤ n →
          exec (.telemetry .further n) s = .next ((rest.foldl (fun t w => t.handleReading w) u).offerTransit f))
        ∧ (n < rest.length →
          exec (.telemetry .further n) s = .next (((rest.take n).foldl (fun t w => t.handleReading w) u).withInHand
            { s.inHand with intake := some { frame := f, rest := rest.drop n } })))
  ∧ (∀ (k : ObsKind) (v : Int) (s s1 u : State),
    s1 = s.setObs k { value := v, fresh := s.paramNat .staleTicks, saturated := false } →
    u = (if (s.obsOf k).fresh = 0 then (s1.record (.stale false k s.stamp)).raise .stale else s1) →
    s.acceptReading k v = (u.offerReading k v).deliverReading k v
    ∧ ((s.obsOf k).fresh = 0 → raised .stale (s.acceptReading k v)
        ∧ (s.param .logMode = 1 → newest u = some (.stale false k s.stamp))))
  ∧ (∀ (v : Int) (s : State),
      (∀ c : Chain, s.deliverReading (.refl c) v = s.reflDelivered c v ∧ s.deliverReading (.fwd c) v = s)
      ∧ s.deliverReading .battV v = s ∧ s.deliverReading .board v = (s.evalZone .a).evalZone .b
      ∧ ∀ (k : ObsKind) (m : Module), k = .dieA ∧ m = .a ∨ k = .dieB ∧ m = .b →
          ∃ u, s.deliverReading k v = u.evalZone m ∧ u = s.withTe u.te
            ∧ ∀ n : Module, u.te.get n = { s.te.get n with rise := (u.te.get n).rise }
              ∧ ((u.te.get n).rise : Int) = if n = m then clamp 0 1023 ((s.te.get m).rise
                  + ((v - s.boardRef - (s.te.get m).rise) * s.param .gamma).tdiv 256) else (s.te.get n).rise)
  ∧ (∀ (w : Word) (v : Int), (readingChannel w).val = bits w 12 4 ∧ (readingRaw w - bits w 0 12) % 4096 = 0
      ∧ -2048 ≤ readingRaw w ∧ readingRaw w ≤ 2047
      ∧ (∀ k ∈ [ObsKind.dieA, .dieB, .board], obsClamp k v = max (-160) (min 600 v)) ∧ obsClamp .battV v = max 0 (min 4095 v)
      ∧ ∀ c : Chain, obsClamp (.fwd c) v = max (-200) (min 140 v) ∧ obsClamp (.refl c) v = max (-200) (min 140 v))
  ∧ ∀ (w : Word) (e : MapEntry) (s t : State), e = s.ti.map.get (readingChannel w) → t = s.handleReading w →
    (e.kind = none → t = s)
    ∧ (∀ k, e.kind = some k → readingRaw w = -2048 ∨ readingRaw w = 2047 →
        t = s.setObs k { value := (s.obsOf k).value, fresh := (s.obsOf k).fresh, saturated := true })
    ∧ (∀ k v, e.kind = some k → readingRaw w ≠ -2048 → readingRaw w ≠ 2047 → v = obsClamp k (readingRaw w + e.offset) →
        t = s.acceptReading k v
        ∧ t.obsOf k = { value := v, fresh := s.paramNat .staleTicks, saturated := false }
        ∧ (∀ j, j ≠ k → t.obsOf j = s.obsOf j) ∧ t.ti.map = s.ti.map
        ∧ (k = .battV ∨ (∃ c, k = .fwd c) → t.te = s.te ∧ t.ms = s.ms)
        ∧ (∀ c, k = .refl c → t.te = s.te ∧ (∀ d : Chain, d ≠ c → t.ms.get d = s.ms.get d)
            ∧ ∀ s1 u : State, s1 = s.setObs k { value := v, fresh := s.paramNat .staleTicks, saturated := false } →
              u = (if (s.obsOf k).fresh = 0 then (s1.record (.stale false k s.stamp)).raise .stale else s1) →
              t = (u.offerReading k v).reflDelivered c v ∧ t.ms.get c = (s.reflDelivered c v).ms.get c)
        ∧ (k = .board → 1 ≤ s.param .staleTicks → t.ms = s.ms ∧ ∀ m : Module, t.te.get m = { s.te.get m with
            zone := nextZone (v + (s.te.get m).rise) (s.param .warm) (s.param .hot) (s.param .critical)
              (s.param .zoneHysteresis) (s.te.get m).zone })
        ∧ (∀ m n : Module, m ≠ n → (k = .dieA ∧ m = .a ∨ k = .dieB ∧ m = .b) →
            t.ms = s.ms ∧ t.te.get n = s.te.get n ∧ (t.te.get m).heat = (s.te.get m).heat
            ∧ ((t.te.get m).rise : Int) = clamp 0 1023 ((s.te.get m).rise
                + ((v - s.boardRef - (s.te.get m).rise) * s.param .gamma).tdiv 256)
            ∧ (t.te.get m).zone = nextZone (s.boardRef + (t.te.get m).rise) (s.param .warm) (s.param .hot)
                (s.param .critical) (s.param .zoneHysteresis) (s.te.get m).zone)
        ∧ logsOnly { s with ti := t.ti, te := t.te, ms := t.ms } t)

/-- A reflected power delivered to the Mismatch Supervisor (R55 to R59, R63 to R65): it is evaluated while the chain is
not PARKED and its forward power is fresh and at or above the forward floor, and changes nothing otherwise; an evaluated
one clears the probe flag and stores the return loss; a change of state writes a MISMATCH record with that return loss;
a good one ends a confirmation in MATCHED, a run of `confirm` poor or bad ones changes the state by the last of them, in
DETUNED only bad ones count, and SEVERE is left by time alone. -/
def Obligations.ReflectedReadingsMoveTheMismatchState : Prop :=
  ∀ (c : Chain) (v rl : Int) (s t : State) (r : ChainRecord), r = s.ms.get c → rl = (s.obsOf (.fwd c)).value - v →
    t = s.reflDelivered c v →
    (r.state = .parked ∨ s.isFresh (.fwd c) = false ∨ (s.obsOf (.fwd c)).value < s.param .forwardFloor → t = s)
    ∧ (s.isFresh (.fwd c) = true → s.param .forwardFloor ≤ (s.obsOf (.fwd c)).value →
      (r.state = .matched → s.param .detuneThreshold ≤ rl →
        t = s.setChain c { r with confirm := 0, probe := false, lastRL := rl })
      ∧ (r.state = .matched → rl < s.param .detuneThreshold → (r.confirm : Int) + 1 < s.param .confirm →
        t = s.setChain c { r with confirm := r.confirm + 1, probe := false, lastRL := rl })
      ∧ (r.state = .matched → rl < s.param .detuneThreshold → s.param .confirm ≤ r.confirm + 1 →
        t.ms.get c = { ChainRecord.reset with
          state := if s.param .severeThreshold ≤ rl then .detuned else .severe
          lastRL := rl } ∧ raised .mismatch t
        ∧ (s.param .logMode = 1 → newest t = some
            (.mismatch c .matched (if s.param .severeThreshold ≤ rl then .detuned else .severe) rl s.stamp)))
      ∧ (r.state = .detuned → (∀ q : ChainRecord,
          q = (if s.param .detuneThreshold + s.param .hysteresis ≤ rl then
              { r with probe := false, lastRL := rl, improving := true, recovery := if r.improving then r.recovery else 0 }
            else { r with probe := false, lastRL := rl, improving := false }) →
          (s.param .severeThreshold ≤ rl ∨ s.param .detuneThreshold ≤ rl → t = s.setChain c { q with confirm := 0 })
          ∧ (rl < s.param .severeThreshold → rl < s.param .detuneThreshold → (r.confirm : Int) + 1 < s.param .confirm →
              t = s.setChain c { q with confirm := r.confirm + 1 })
          ∧ (rl < s.param .severeThreshold → rl < s.param .detuneThreshold → s.param .confirm ≤ r.confirm + 1 →
              t.ms.get c = { ChainRecord.reset with state := .severe, lastRL := rl } ∧ raised .mismatch t
                ∧ (s.param .logMode = 1 → newest t = some (.mismatch c .detuned .severe rl s.stamp)))))
      ∧ (r.state = .severe →
        t = s.setChain c { r with
          probe := false
          lastRL := rl
          confirm := 0
          improving := decide (s.param .severeThreshold + s.param .hysteresis ≤ rl)
          recovery := if s.param .severeThreshold + s.param .hysteresis ≤ rl ∧ r.improving = false then 0 else r.recovery }))
    ∧ logsOnly (s.withMs t.ms) t ∧ ∀ d : Chain, d ≠ c → t.ms.get d = s.ms.get d
end

