-- ==== Sys2Proof/Laws/Codes.lean ====
section
/-! SUPPORT. How large the codes and fields of a packed word can be (sections 9.2, 10.4 and 11.5): what a proof about the
layout of a word needs, so that it does not unfold a code. -/

namespace Sys2Proof.Machine

/-! ### The codes of the named sets -/

theorem Module.code_le (m : Module) : m.code ≤ 1 := by cases m <;> decide

theorem Zone.code_le (z : Zone) : z.code ≤ 3 := by cases z <;> decide

theorem MismatchState.code_le (m : MismatchState) : m.code ≤ 3 := by cases m <;> decide

theorem ChargeState.code_le (c : ChargeState) : c.code ≤ 1 := by cases c <;> decide

theorem Reason.code_le (r : Reason) : r.code ≤ 11 := by cases r <;> decide

theorem CurveKind.code_le (k : CurveKind) : k.code ≤ 3 := by cases k <;> decide

theorem InvalidReason.code_le (r : InvalidReason) : r.code ≤ 3 := by cases r <;> decide

theorem FlipPoint.code_le (p : FlipPoint) : p.code ≤ 1 := by cases p <;> decide

theorem AnchorMatch.code_le (a : AnchorMatch) : a.code ≤ 2 := by cases a <;> decide

theorem ShedPolicy.code_le (p : ShedPolicy) : p.code ≤ 2 := by cases p <;> decide

theorem LinkError.code_le (e : LinkError) : e.code ≤ 3 := by cases e <;> decide

theorem ResetCause.code_le (c : ResetCause) : c.code ≤ 2 := by cases c <;> decide

theorem Status.code_le (st : Status) : st.code ≤ 9 := by cases st <;> decide

theorem CurveRef.code_le (r : CurveRef) : r.code ≤ 16 := by
  cases r <;> simp only [CurveRef.code] <;> omega

theorem CeilingRef.code_le (r : CeilingRef) : r.code ≤ 17 := by
  cases r <;> simp only [CeilingRef.code] <;> omega

theorem obsCode_le (k : ObsKind) : 1 ≤ obsCode k ∧ obsCode k ≤ 12 := by
  cases k <;> simp only [obsCode] <;> omega

/-! ### Ten-bit fields and signed words -/

theorem field10_eq (q : Int) : (field10 q : Int) = q % 1024 := by
  simp only [field10, BitVec.toNat_ofInt]
  omega

theorem Power.field_lt (p : Power) : p.field < 1024 := by
  cases p
  · decide
  · exact BitVec.isLt _

theorem Word.ofSigned_toInt (i : Int) (hl : -32768 ≤ i) (hr : i ≤ 32767) : (Word.ofSigned i).toInt = i := by
  simp only [Word.ofSigned, BitVec.toInt_ofInt, Int.bmod]
  omega

/-- A record is as many words as its length says (section 9.2). -/
@[simp] theorem Record.words_length (r : Record) : r.words.length = r.length := by
  cases r <;> simp only [Record.words, Record.length, List.length_cons, List.length_nil, List.length_map]
  omega

end Sys2Proof.Machine
end

