-- ==== Sys2Proof/Laws/State.lean ====
section
/-! SUPPORT. One lemma for each field of State under each update, and for each derived reading under each update that
does not reach it. Every one is true by rfl. -/

namespace Sys2Proof.Machine

/-! ### Replacing rh -/

@[simp] theorem State.withRh_rh (s : State) (x : RequestHandler) : (s.withRh x).rh = x := rfl
@[simp] theorem State.withRh_ge (s : State) (x : RequestHandler) : (s.withRh x).ge = s.ge := rfl
@[simp] theorem State.withRh_te (s : State) (x : RequestHandler) : (s.withRh x).te = s.te := rfl
@[simp] theorem State.withRh_ms (s : State) (x : RequestHandler) : (s.withRh x).ms = s.ms := rfl
@[simp] theorem State.withRh_sa (s : State) (x : RequestHandler) : (s.withRh x).sa = s.sa := rfl
@[simp] theorem State.withRh_cs (s : State) (x : RequestHandler) : (s.withRh x).cs = s.cs := rfl
@[simp] theorem State.withRh_cb (s : State) (x : RequestHandler) : (s.withRh x).cb = s.cb := rfl
@[simp] theorem State.withRh_ti (s : State) (x : RequestHandler) : (s.withRh x).ti = s.ti := rfl
@[simp] theorem State.withRh_tg (s : State) (x : RequestHandler) : (s.withRh x).tg = s.tg := rfl
@[simp] theorem State.withRh_ol (s : State) (x : RequestHandler) : (s.withRh x).ol = s.ol := rfl
@[simp] theorem State.withRh_nu (s : State) (x : RequestHandler) : (s.withRh x).nu = s.nu := rfl
@[simp] theorem State.withRh_li (s : State) (x : RequestHandler) : (s.withRh x).li = s.li := rfl
@[simp] theorem State.withRh_pins (s : State) (x : RequestHandler) : (s.withRh x).pins = s.pins := rfl
@[simp] theorem State.withRh_inHand (s : State) (x : RequestHandler) : (s.withRh x).inHand = s.inHand := rfl
@[simp] theorem State.withRh_pending (s : State) (x : RequestHandler) : (s.withRh x).pending = s.pending := rfl
@[simp] theorem State.withRh_self (s : State) : s.withRh s.rh = s := rfl
@[simp] theorem State.withRh_again (s : State) (x y : RequestHandler) : (s.withRh x).withRh y = s.withRh y := rfl

/-! ### Replacing ge -/

@[simp] theorem State.withGe_rh (s : State) (x : GrantEngine) : (s.withGe x).rh = s.rh := rfl
@[simp] theorem State.withGe_ge (s : State) (x : GrantEngine) : (s.withGe x).ge = x := rfl
@[simp] theorem State.withGe_te (s : State) (x : GrantEngine) : (s.withGe x).te = s.te := rfl
@[simp] theorem State.withGe_ms (s : State) (x : GrantEngine) : (s.withGe x).ms = s.ms := rfl
@[simp] theorem State.withGe_sa (s : State) (x : GrantEngine) : (s.withGe x).sa = s.sa := rfl
@[simp] theorem State.withGe_cs (s : State) (x : GrantEngine) : (s.withGe x).cs = s.cs := rfl
@[simp] theorem State.withGe_cb (s : State) (x : GrantEngine) : (s.withGe x).cb = s.cb := rfl
@[simp] theorem State.withGe_ti (s : State) (x : GrantEngine) : (s.withGe x).ti = s.ti := rfl
@[simp] theorem State.withGe_tg (s : State) (x : GrantEngine) : (s.withGe x).tg = s.tg := rfl
@[simp] theorem State.withGe_ol (s : State) (x : GrantEngine) : (s.withGe x).ol = s.ol := rfl
@[simp] theorem State.withGe_nu (s : State) (x : GrantEngine) : (s.withGe x).nu = s.nu := rfl
@[simp] theorem State.withGe_li (s : State) (x : GrantEngine) : (s.withGe x).li = s.li := rfl
@[simp] theorem State.withGe_pins (s : State) (x : GrantEngine) : (s.withGe x).pins = s.pins := rfl
@[simp] theorem State.withGe_inHand (s : State) (x : GrantEngine) : (s.withGe x).inHand = s.inHand := rfl
@[simp] theorem State.withGe_pending (s : State) (x : GrantEngine) : (s.withGe x).pending = s.pending := rfl
@[simp] theorem State.withGe_self (s : State) : s.withGe s.ge = s := rfl
@[simp] theorem State.withGe_again (s : State) (x y : GrantEngine) : (s.withGe x).withGe y = s.withGe y := rfl

/-! ### Replacing te -/

@[simp] theorem State.withTe_rh (s : State) (x : ThermalEstimator) : (s.withTe x).rh = s.rh := rfl
@[simp] theorem State.withTe_ge (s : State) (x : ThermalEstimator) : (s.withTe x).ge = s.ge := rfl
@[simp] theorem State.withTe_te (s : State) (x : ThermalEstimator) : (s.withTe x).te = x := rfl
@[simp] theorem State.withTe_ms (s : State) (x : ThermalEstimator) : (s.withTe x).ms = s.ms := rfl
@[simp] theorem State.withTe_sa (s : State) (x : ThermalEstimator) : (s.withTe x).sa = s.sa := rfl
@[simp] theorem State.withTe_cs (s : State) (x : ThermalEstimator) : (s.withTe x).cs = s.cs := rfl
@[simp] theorem State.withTe_cb (s : State) (x : ThermalEstimator) : (s.withTe x).cb = s.cb := rfl
@[simp] theorem State.withTe_ti (s : State) (x : ThermalEstimator) : (s.withTe x).ti = s.ti := rfl
@[simp] theorem State.withTe_tg (s : State) (x : ThermalEstimator) : (s.withTe x).tg = s.tg := rfl
@[simp] theorem State.withTe_ol (s : State) (x : ThermalEstimator) : (s.withTe x).ol = s.ol := rfl
@[simp] theorem State.withTe_nu (s : State) (x : ThermalEstimator) : (s.withTe x).nu = s.nu := rfl
@[simp] theorem State.withTe_li (s : State) (x : ThermalEstimator) : (s.withTe x).li = s.li := rfl
@[simp] theorem State.withTe_pins (s : State) (x : ThermalEstimator) : (s.withTe x).pins = s.pins := rfl
@[simp] theorem State.withTe_inHand (s : State) (x : ThermalEstimator) : (s.withTe x).inHand = s.inHand := rfl
@[simp] theorem State.withTe_pending (s : State) (x : ThermalEstimator) : (s.withTe x).pending = s.pending := rfl
@[simp] theorem State.withTe_self (s : State) : s.withTe s.te = s := rfl
@[simp] theorem State.withTe_again (s : State) (x y : ThermalEstimator) : (s.withTe x).withTe y = s.withTe y := rfl

/-! ### Replacing ms -/

@[simp] theorem State.withMs_rh (s : State) (x : Vector ChainRecord 4) : (s.withMs x).rh = s.rh := rfl
@[simp] theorem State.withMs_ge (s : State) (x : Vector ChainRecord 4) : (s.withMs x).ge = s.ge := rfl
@[simp] theorem State.withMs_te (s : State) (x : Vector ChainRecord 4) : (s.withMs x).te = s.te := rfl
@[simp] theorem State.withMs_ms (s : State) (x : Vector ChainRecord 4) : (s.withMs x).ms = x := rfl
@[simp] theorem State.withMs_sa (s : State) (x : Vector ChainRecord 4) : (s.withMs x).sa = s.sa := rfl
@[simp] theorem State.withMs_cs (s : State) (x : Vector ChainRecord 4) : (s.withMs x).cs = s.cs := rfl
@[simp] theorem State.withMs_cb (s : State) (x : Vector ChainRecord 4) : (s.withMs x).cb = s.cb := rfl
@[simp] theorem State.withMs_ti (s : State) (x : Vector ChainRecord 4) : (s.withMs x).ti = s.ti := rfl
@[simp] theorem State.withMs_tg (s : State) (x : Vector ChainRecord 4) : (s.withMs x).tg = s.tg := rfl
@[simp] theorem State.withMs_ol (s : State) (x : Vector ChainRecord 4) : (s.withMs x).ol = s.ol := rfl
@[simp] theorem State.withMs_nu (s : State) (x : Vector ChainRecord 4) : (s.withMs x).nu = s.nu := rfl
@[simp] theorem State.withMs_li (s : State) (x : Vector ChainRecord 4) : (s.withMs x).li = s.li := rfl
@[simp] theorem State.withMs_pins (s : State) (x : Vector ChainRecord 4) : (s.withMs x).pins = s.pins := rfl
@[simp] theorem State.withMs_inHand (s : State) (x : Vector ChainRecord 4) : (s.withMs x).inHand = s.inHand := rfl
@[simp] theorem State.withMs_pending (s : State) (x : Vector ChainRecord 4) : (s.withMs x).pending = s.pending := rfl
@[simp] theorem State.withMs_self (s : State) : s.withMs s.ms = s := rfl
@[simp] theorem State.withMs_again (s : State) (x y : Vector ChainRecord 4) : (s.withMs x).withMs y = s.withMs y := rfl

/-! ### Replacing sa -/

@[simp] theorem State.withSa_rh (s : State) (x : SupplyAllocator) : (s.withSa x).rh = s.rh := rfl
@[simp] theorem State.withSa_ge (s : State) (x : SupplyAllocator) : (s.withSa x).ge = s.ge := rfl
@[simp] theorem State.withSa_te (s : State) (x : SupplyAllocator) : (s.withSa x).te = s.te := rfl
@[simp] theorem State.withSa_ms (s : State) (x : SupplyAllocator) : (s.withSa x).ms = s.ms := rfl
@[simp] theorem State.withSa_sa (s : State) (x : SupplyAllocator) : (s.withSa x).sa = x := rfl
@[simp] theorem State.withSa_cs (s : State) (x : SupplyAllocator) : (s.withSa x).cs = s.cs := rfl
@[simp] theorem State.withSa_cb (s : State) (x : SupplyAllocator) : (s.withSa x).cb = s.cb := rfl
@[simp] theorem State.withSa_ti (s : State) (x : SupplyAllocator) : (s.withSa x).ti = s.ti := rfl
@[simp] theorem State.withSa_tg (s : State) (x : SupplyAllocator) : (s.withSa x).tg = s.tg := rfl
@[simp] theorem State.withSa_ol (s : State) (x : SupplyAllocator) : (s.withSa x).ol = s.ol := rfl
@[simp] theorem State.withSa_nu (s : State) (x : SupplyAllocator) : (s.withSa x).nu = s.nu := rfl
@[simp] theorem State.withSa_li (s : State) (x : SupplyAllocator) : (s.withSa x).li = s.li := rfl
@[simp] theorem State.withSa_pins (s : State) (x : SupplyAllocator) : (s.withSa x).pins = s.pins := rfl
@[simp] theorem State.withSa_inHand (s : State) (x : SupplyAllocator) : (s.withSa x).inHand = s.inHand := rfl
@[simp] theorem State.withSa_pending (s : State) (x : SupplyAllocator) : (s.withSa x).pending = s.pending := rfl
@[simp] theorem State.withSa_self (s : State) : s.withSa s.sa = s := rfl
@[simp] theorem State.withSa_again (s : State) (x y : SupplyAllocator) : (s.withSa x).withSa y = s.withSa y := rfl

/-! ### Replacing cs -/

@[simp] theorem State.withCs_rh (s : State) (x : CurveStore) : (s.withCs x).rh = s.rh := rfl
@[simp] theorem State.withCs_ge (s : State) (x : CurveStore) : (s.withCs x).ge = s.ge := rfl
@[simp] theorem State.withCs_te (s : State) (x : CurveStore) : (s.withCs x).te = s.te := rfl
@[simp] theorem State.withCs_ms (s : State) (x : CurveStore) : (s.withCs x).ms = s.ms := rfl
@[simp] theorem State.withCs_sa (s : State) (x : CurveStore) : (s.withCs x).sa = s.sa := rfl
@[simp] theorem State.withCs_cs (s : State) (x : CurveStore) : (s.withCs x).cs = x := rfl
@[simp] theorem State.withCs_cb (s : State) (x : CurveStore) : (s.withCs x).cb = s.cb := rfl
@[simp] theorem State.withCs_ti (s : State) (x : CurveStore) : (s.withCs x).ti = s.ti := rfl
@[simp] theorem State.withCs_tg (s : State) (x : CurveStore) : (s.withCs x).tg = s.tg := rfl
@[simp] theorem State.withCs_ol (s : State) (x : CurveStore) : (s.withCs x).ol = s.ol := rfl
@[simp] theorem State.withCs_nu (s : State) (x : CurveStore) : (s.withCs x).nu = s.nu := rfl
@[simp] theorem State.withCs_li (s : State) (x : CurveStore) : (s.withCs x).li = s.li := rfl
@[simp] theorem State.withCs_pins (s : State) (x : CurveStore) : (s.withCs x).pins = s.pins := rfl
@[simp] theorem State.withCs_inHand (s : State) (x : CurveStore) : (s.withCs x).inHand = s.inHand := rfl
@[simp] theorem State.withCs_pending (s : State) (x : CurveStore) : (s.withCs x).pending = s.pending := rfl
@[simp] theorem State.withCs_self (s : State) : s.withCs s.cs = s := rfl
@[simp] theorem State.withCs_again (s : State) (x y : CurveStore) : (s.withCs x).withCs y = s.withCs y := rfl

/-! ### Replacing cb -/

@[simp] theorem State.withCb_rh (s : State) (x : ConfigBanks) : (s.withCb x).rh = s.rh := rfl
@[simp] theorem State.withCb_ge (s : State) (x : ConfigBanks) : (s.withCb x).ge = s.ge := rfl
@[simp] theorem State.withCb_te (s : State) (x : ConfigBanks) : (s.withCb x).te = s.te := rfl
@[simp] theorem State.withCb_ms (s : State) (x : ConfigBanks) : (s.withCb x).ms = s.ms := rfl
@[simp] theorem State.withCb_sa (s : State) (x : ConfigBanks) : (s.withCb x).sa = s.sa := rfl
@[simp] theorem State.withCb_cs (s : State) (x : ConfigBanks) : (s.withCb x).cs = s.cs := rfl
@[simp] theorem State.withCb_cb (s : State) (x : ConfigBanks) : (s.withCb x).cb = x := rfl
@[simp] theorem State.withCb_ti (s : State) (x : ConfigBanks) : (s.withCb x).ti = s.ti := rfl
@[simp] theorem State.withCb_tg (s : State) (x : ConfigBanks) : (s.withCb x).tg = s.tg := rfl
@[simp] theorem State.withCb_ol (s : State) (x : ConfigBanks) : (s.withCb x).ol = s.ol := rfl
@[simp] theorem State.withCb_nu (s : State) (x : ConfigBanks) : (s.withCb x).nu = s.nu := rfl
@[simp] theorem State.withCb_li (s : State) (x : ConfigBanks) : (s.withCb x).li = s.li := rfl
@[simp] theorem State.withCb_pins (s : State) (x : ConfigBanks) : (s.withCb x).pins = s.pins := rfl
@[simp] theorem State.withCb_inHand (s : State) (x : ConfigBanks) : (s.withCb x).inHand = s.inHand := rfl
@[simp] theorem State.withCb_pending (s : State) (x : ConfigBanks) : (s.withCb x).pending = s.pending := rfl
@[simp] theorem State.withCb_self (s : State) : s.withCb s.cb = s := rfl
@[simp] theorem State.withCb_again (s : State) (x y : ConfigBanks) : (s.withCb x).withCb y = s.withCb y := rfl

/-! ### Replacing ti -/

@[simp] theorem State.withTi_rh (s : State) (x : TelemetryIntake) : (s.withTi x).rh = s.rh := rfl
@[simp] theorem State.withTi_ge (s : State) (x : TelemetryIntake) : (s.withTi x).ge = s.ge := rfl
@[simp] theorem State.withTi_te (s : State) (x : TelemetryIntake) : (s.withTi x).te = s.te := rfl
@[simp] theorem State.withTi_ms (s : State) (x : TelemetryIntake) : (s.withTi x).ms = s.ms := rfl
@[simp] theorem State.withTi_sa (s : State) (x : TelemetryIntake) : (s.withTi x).sa = s.sa := rfl
@[simp] theorem State.withTi_cs (s : State) (x : TelemetryIntake) : (s.withTi x).cs = s.cs := rfl
@[simp] theorem State.withTi_cb (s : State) (x : TelemetryIntake) : (s.withTi x).cb = s.cb := rfl
@[simp] theorem State.withTi_ti (s : State) (x : TelemetryIntake) : (s.withTi x).ti = x := rfl
@[simp] theorem State.withTi_tg (s : State) (x : TelemetryIntake) : (s.withTi x).tg = s.tg := rfl
@[simp] theorem State.withTi_ol (s : State) (x : TelemetryIntake) : (s.withTi x).ol = s.ol := rfl
@[simp] theorem State.withTi_nu (s : State) (x : TelemetryIntake) : (s.withTi x).nu = s.nu := rfl
@[simp] theorem State.withTi_li (s : State) (x : TelemetryIntake) : (s.withTi x).li = s.li := rfl
@[simp] theorem State.withTi_pins (s : State) (x : TelemetryIntake) : (s.withTi x).pins = s.pins := rfl
@[simp] theorem State.withTi_inHand (s : State) (x : TelemetryIntake) : (s.withTi x).inHand = s.inHand := rfl
@[simp] theorem State.withTi_pending (s : State) (x : TelemetryIntake) : (s.withTi x).pending = s.pending := rfl
@[simp] theorem State.withTi_self (s : State) : s.withTi s.ti = s := rfl
@[simp] theorem State.withTi_again (s : State) (x y : TelemetryIntake) : (s.withTi x).withTi y = s.withTi y := rfl

/-! ### Replacing tg -/

@[simp] theorem State.withTg_rh (s : State) (x : TickGenerator) : (s.withTg x).rh = s.rh := rfl
@[simp] theorem State.withTg_ge (s : State) (x : TickGenerator) : (s.withTg x).ge = s.ge := rfl
@[simp] theorem State.withTg_te (s : State) (x : TickGenerator) : (s.withTg x).te = s.te := rfl
@[simp] theorem State.withTg_ms (s : State) (x : TickGenerator) : (s.withTg x).ms = s.ms := rfl
@[simp] theorem State.withTg_sa (s : State) (x : TickGenerator) : (s.withTg x).sa = s.sa := rfl
@[simp] theorem State.withTg_cs (s : State) (x : TickGenerator) : (s.withTg x).cs = s.cs := rfl
@[simp] theorem State.withTg_cb (s : State) (x : TickGenerator) : (s.withTg x).cb = s.cb := rfl
@[simp] theorem State.withTg_ti (s : State) (x : TickGenerator) : (s.withTg x).ti = s.ti := rfl
@[simp] theorem State.withTg_tg (s : State) (x : TickGenerator) : (s.withTg x).tg = x := rfl
@[simp] theorem State.withTg_ol (s : State) (x : TickGenerator) : (s.withTg x).ol = s.ol := rfl
@[simp] theorem State.withTg_nu (s : State) (x : TickGenerator) : (s.withTg x).nu = s.nu := rfl
@[simp] theorem State.withTg_li (s : State) (x : TickGenerator) : (s.withTg x).li = s.li := rfl
@[simp] theorem State.withTg_pins (s : State) (x : TickGenerator) : (s.withTg x).pins = s.pins := rfl
@[simp] theorem State.withTg_inHand (s : State) (x : TickGenerator) : (s.withTg x).inHand = s.inHand := rfl
@[simp] theorem State.withTg_pending (s : State) (x : TickGenerator) : (s.withTg x).pending = s.pending := rfl
@[simp] theorem State.withTg_self (s : State) : s.withTg s.tg = s := rfl
@[simp] theorem State.withTg_again (s : State) (x y : TickGenerator) : (s.withTg x).withTg y = s.withTg y := rfl

/-! ### Replacing ol -/

@[simp] theorem State.withOl_rh (s : State) (x : ObservationLog) : (s.withOl x).rh = s.rh := rfl
@[simp] theorem State.withOl_ge (s : State) (x : ObservationLog) : (s.withOl x).ge = s.ge := rfl
@[simp] theorem State.withOl_te (s : State) (x : ObservationLog) : (s.withOl x).te = s.te := rfl
@[simp] theorem State.withOl_ms (s : State) (x : ObservationLog) : (s.withOl x).ms = s.ms := rfl
@[simp] theorem State.withOl_sa (s : State) (x : ObservationLog) : (s.withOl x).sa = s.sa := rfl
@[simp] theorem State.withOl_cs (s : State) (x : ObservationLog) : (s.withOl x).cs = s.cs := rfl
@[simp] theorem State.withOl_cb (s : State) (x : ObservationLog) : (s.withOl x).cb = s.cb := rfl
@[simp] theorem State.withOl_ti (s : State) (x : ObservationLog) : (s.withOl x).ti = s.ti := rfl
@[simp] theorem State.withOl_tg (s : State) (x : ObservationLog) : (s.withOl x).tg = s.tg := rfl
@[simp] theorem State.withOl_ol (s : State) (x : ObservationLog) : (s.withOl x).ol = x := rfl
@[simp] theorem State.withOl_nu (s : State) (x : ObservationLog) : (s.withOl x).nu = s.nu := rfl
@[simp] theorem State.withOl_li (s : State) (x : ObservationLog) : (s.withOl x).li = s.li := rfl
@[simp] theorem State.withOl_pins (s : State) (x : ObservationLog) : (s.withOl x).pins = s.pins := rfl
@[simp] theorem State.withOl_inHand (s : State) (x : ObservationLog) : (s.withOl x).inHand = s.inHand := rfl
@[simp] theorem State.withOl_pending (s : State) (x : ObservationLog) : (s.withOl x).pending = s.pending := rfl
@[simp] theorem State.withOl_self (s : State) : s.withOl s.ol = s := rfl
@[simp] theorem State.withOl_again (s : State) (x y : ObservationLog) : (s.withOl x).withOl y = s.withOl y := rfl

/-! ### Replacing nu -/

@[simp] theorem State.withNu_rh (s : State) (x : NoticeUnit) : (s.withNu x).rh = s.rh := rfl
@[simp] theorem State.withNu_ge (s : State) (x : NoticeUnit) : (s.withNu x).ge = s.ge := rfl
@[simp] theorem State.withNu_te (s : State) (x : NoticeUnit) : (s.withNu x).te = s.te := rfl
@[simp] theorem State.withNu_ms (s : State) (x : NoticeUnit) : (s.withNu x).ms = s.ms := rfl
@[simp] theorem State.withNu_sa (s : State) (x : NoticeUnit) : (s.withNu x).sa = s.sa := rfl
@[simp] theorem State.withNu_cs (s : State) (x : NoticeUnit) : (s.withNu x).cs = s.cs := rfl
@[simp] theorem State.withNu_cb (s : State) (x : NoticeUnit) : (s.withNu x).cb = s.cb := rfl
@[simp] theorem State.withNu_ti (s : State) (x : NoticeUnit) : (s.withNu x).ti = s.ti := rfl
@[simp] theorem State.withNu_tg (s : State) (x : NoticeUnit) : (s.withNu x).tg = s.tg := rfl
@[simp] theorem State.withNu_ol (s : State) (x : NoticeUnit) : (s.withNu x).ol = s.ol := rfl
@[simp] theorem State.withNu_nu (s : State) (x : NoticeUnit) : (s.withNu x).nu = x := rfl
@[simp] theorem State.withNu_li (s : State) (x : NoticeUnit) : (s.withNu x).li = s.li := rfl
@[simp] theorem State.withNu_pins (s : State) (x : NoticeUnit) : (s.withNu x).pins = s.pins := rfl
@[simp] theorem State.withNu_inHand (s : State) (x : NoticeUnit) : (s.withNu x).inHand = s.inHand := rfl
@[simp] theorem State.withNu_pending (s : State) (x : NoticeUnit) : (s.withNu x).pending = s.pending := rfl
@[simp] theorem State.withNu_self (s : State) : s.withNu s.nu = s := rfl
@[simp] theorem State.withNu_again (s : State) (x y : NoticeUnit) : (s.withNu x).withNu y = s.withNu y := rfl

/-! ### Replacing li -/

@[simp] theorem State.withLi_rh (s : State) (x : LinkInterface) : (s.withLi x).rh = s.rh := rfl
@[simp] theorem State.withLi_ge (s : State) (x : LinkInterface) : (s.withLi x).ge = s.ge := rfl
@[simp] theorem State.withLi_te (s : State) (x : LinkInterface) : (s.withLi x).te = s.te := rfl
@[simp] theorem State.withLi_ms (s : State) (x : LinkInterface) : (s.withLi x).ms = s.ms := rfl
@[simp] theorem State.withLi_sa (s : State) (x : LinkInterface) : (s.withLi x).sa = s.sa := rfl
@[simp] theorem State.withLi_cs (s : State) (x : LinkInterface) : (s.withLi x).cs = s.cs := rfl
@[simp] theorem State.withLi_cb (s : State) (x : LinkInterface) : (s.withLi x).cb = s.cb := rfl
@[simp] theorem State.withLi_ti (s : State) (x : LinkInterface) : (s.withLi x).ti = s.ti := rfl
@[simp] theorem State.withLi_tg (s : State) (x : LinkInterface) : (s.withLi x).tg = s.tg := rfl
@[simp] theorem State.withLi_ol (s : State) (x : LinkInterface) : (s.withLi x).ol = s.ol := rfl
@[simp] theorem State.withLi_nu (s : State) (x : LinkInterface) : (s.withLi x).nu = s.nu := rfl
@[simp] theorem State.withLi_li (s : State) (x : LinkInterface) : (s.withLi x).li = x := rfl
@[simp] theorem State.withLi_pins (s : State) (x : LinkInterface) : (s.withLi x).pins = s.pins := rfl
@[simp] theorem State.withLi_inHand (s : State) (x : LinkInterface) : (s.withLi x).inHand = s.inHand := rfl
@[simp] theorem State.withLi_pending (s : State) (x : LinkInterface) : (s.withLi x).pending = s.pending := rfl
@[simp] theorem State.withLi_self (s : State) : s.withLi s.li = s := rfl
@[simp] theorem State.withLi_again (s : State) (x y : LinkInterface) : (s.withLi x).withLi y = s.withLi y := rfl

/-! ### Replacing pins -/

@[simp] theorem State.withPins_rh (s : State) (x : Pins) : (s.withPins x).rh = s.rh := rfl
@[simp] theorem State.withPins_ge (s : State) (x : Pins) : (s.withPins x).ge = s.ge := rfl
@[simp] theorem State.withPins_te (s : State) (x : Pins) : (s.withPins x).te = s.te := rfl
@[simp] theorem State.withPins_ms (s : State) (x : Pins) : (s.withPins x).ms = s.ms := rfl
@[simp] theorem State.withPins_sa (s : State) (x : Pins) : (s.withPins x).sa = s.sa := rfl
@[simp] theorem State.withPins_cs (s : State) (x : Pins) : (s.withPins x).cs = s.cs := rfl
@[simp] theorem State.withPins_cb (s : State) (x : Pins) : (s.withPins x).cb = s.cb := rfl
@[simp] theorem State.withPins_ti (s : State) (x : Pins) : (s.withPins x).ti = s.ti := rfl
@[simp] theorem State.withPins_tg (s : State) (x : Pins) : (s.withPins x).tg = s.tg := rfl
@[simp] theorem State.withPins_ol (s : State) (x : Pins) : (s.withPins x).ol = s.ol := rfl
@[simp] theorem State.withPins_nu (s : State) (x : Pins) : (s.withPins x).nu = s.nu := rfl
@[simp] theorem State.withPins_li (s : State) (x : Pins) : (s.withPins x).li = s.li := rfl
@[simp] theorem State.withPins_pins (s : State) (x : Pins) : (s.withPins x).pins = x := rfl
@[simp] theorem State.withPins_inHand (s : State) (x : Pins) : (s.withPins x).inHand = s.inHand := rfl
@[simp] theorem State.withPins_pending (s : State) (x : Pins) : (s.withPins x).pending = s.pending := rfl
@[simp] theorem State.withPins_self (s : State) : s.withPins s.pins = s := rfl
@[simp] theorem State.withPins_again (s : State) (x y : Pins) : (s.withPins x).withPins y = s.withPins y := rfl

/-! ### Replacing inHand -/

@[simp] theorem State.withInHand_rh (s : State) (x : InHand) : (s.withInHand x).rh = s.rh := rfl
@[simp] theorem State.withInHand_ge (s : State) (x : InHand) : (s.withInHand x).ge = s.ge := rfl
@[simp] theorem State.withInHand_te (s : State) (x : InHand) : (s.withInHand x).te = s.te := rfl
@[simp] theorem State.withInHand_ms (s : State) (x : InHand) : (s.withInHand x).ms = s.ms := rfl
@[simp] theorem State.withInHand_sa (s : State) (x : InHand) : (s.withInHand x).sa = s.sa := rfl
@[simp] theorem State.withInHand_cs (s : State) (x : InHand) : (s.withInHand x).cs = s.cs := rfl
@[simp] theorem State.withInHand_cb (s : State) (x : InHand) : (s.withInHand x).cb = s.cb := rfl
@[simp] theorem State.withInHand_ti (s : State) (x : InHand) : (s.withInHand x).ti = s.ti := rfl
@[simp] theorem State.withInHand_tg (s : State) (x : InHand) : (s.withInHand x).tg = s.tg := rfl
@[simp] theorem State.withInHand_ol (s : State) (x : InHand) : (s.withInHand x).ol = s.ol := rfl
@[simp] theorem State.withInHand_nu (s : State) (x : InHand) : (s.withInHand x).nu = s.nu := rfl
@[simp] theorem State.withInHand_li (s : State) (x : InHand) : (s.withInHand x).li = s.li := rfl
@[simp] theorem State.withInHand_pins (s : State) (x : InHand) : (s.withInHand x).pins = s.pins := rfl
@[simp] theorem State.withInHand_inHand (s : State) (x : InHand) : (s.withInHand x).inHand = x := rfl
@[simp] theorem State.withInHand_pending (s : State) (x : InHand) : (s.withInHand x).pending = s.pending := rfl
@[simp] theorem State.withInHand_self (s : State) : s.withInHand s.inHand = s := rfl
@[simp] theorem State.withInHand_again (s : State) (x y : InHand) : (s.withInHand x).withInHand y = s.withInHand y := rfl

/-! ### Replacing pending -/

@[simp] theorem State.withPending_rh (s : State) (x : List Instr) : (s.withPending x).rh = s.rh := rfl
@[simp] theorem State.withPending_ge (s : State) (x : List Instr) : (s.withPending x).ge = s.ge := rfl
@[simp] theorem State.withPending_te (s : State) (x : List Instr) : (s.withPending x).te = s.te := rfl
@[simp] theorem State.withPending_ms (s : State) (x : List Instr) : (s.withPending x).ms = s.ms := rfl
@[simp] theorem State.withPending_sa (s : State) (x : List Instr) : (s.withPending x).sa = s.sa := rfl
@[simp] theorem State.withPending_cs (s : State) (x : List Instr) : (s.withPending x).cs = s.cs := rfl
@[simp] theorem State.withPending_cb (s : State) (x : List Instr) : (s.withPending x).cb = s.cb := rfl
@[simp] theorem State.withPending_ti (s : State) (x : List Instr) : (s.withPending x).ti = s.ti := rfl
@[simp] theorem State.withPending_tg (s : State) (x : List Instr) : (s.withPending x).tg = s.tg := rfl
@[simp] theorem State.withPending_ol (s : State) (x : List Instr) : (s.withPending x).ol = s.ol := rfl
@[simp] theorem State.withPending_nu (s : State) (x : List Instr) : (s.withPending x).nu = s.nu := rfl
@[simp] theorem State.withPending_li (s : State) (x : List Instr) : (s.withPending x).li = s.li := rfl
@[simp] theorem State.withPending_pins (s : State) (x : List Instr) : (s.withPending x).pins = s.pins := rfl
@[simp] theorem State.withPending_inHand (s : State) (x : List Instr) : (s.withPending x).inHand = s.inHand := rfl
@[simp] theorem State.withPending_pending (s : State) (x : List Instr) : (s.withPending x).pending = x := rfl
@[simp] theorem State.withPending_self (s : State) : s.withPending s.pending = s := rfl
@[simp] theorem State.withPending_again (s : State) (x y : List Instr) : (s.withPending x).withPending y = s.withPending y := rfl

/-! ### The reading param -/

@[simp] theorem State.withGe_param (s : State) (x : GrantEngine) (p : ParamId) : (s.withGe x).param p = s.param p := rfl
@[simp] theorem State.withTe_param (s : State) (x : ThermalEstimator) (p : ParamId) : (s.withTe x).param p = s.param p := rfl
@[simp] theorem State.withMs_param (s : State) (x : Vector ChainRecord 4) (p : ParamId) : (s.withMs x).param p = s.param p := rfl
@[simp] theorem State.withSa_param (s : State) (x : SupplyAllocator) (p : ParamId) : (s.withSa x).param p = s.param p := rfl
@[simp] theorem State.withCs_param (s : State) (x : CurveStore) (p : ParamId) : (s.withCs x).param p = s.param p := rfl
@[simp] theorem State.withCb_param (s : State) (x : ConfigBanks) (p : ParamId) : (s.withCb x).param p = s.param p := rfl
@[simp] theorem State.withTi_param (s : State) (x : TelemetryIntake) (p : ParamId) : (s.withTi x).param p = s.param p := rfl
@[simp] theorem State.withTg_param (s : State) (x : TickGenerator) (p : ParamId) : (s.withTg x).param p = s.param p := rfl
@[simp] theorem State.withOl_param (s : State) (x : ObservationLog) (p : ParamId) : (s.withOl x).param p = s.param p := rfl
@[simp] theorem State.withNu_param (s : State) (x : NoticeUnit) (p : ParamId) : (s.withNu x).param p = s.param p := rfl
@[simp] theorem State.withLi_param (s : State) (x : LinkInterface) (p : ParamId) : (s.withLi x).param p = s.param p := rfl
@[simp] theorem State.withPins_param (s : State) (x : Pins) (p : ParamId) : (s.withPins x).param p = s.param p := rfl
@[simp] theorem State.withInHand_param (s : State) (x : InHand) (p : ParamId) : (s.withInHand x).param p = s.param p := rfl
@[simp] theorem State.withPending_param (s : State) (x : List Instr) (p : ParamId) : (s.withPending x).param p = s.param p := rfl

/-! ### The reading paramNat -/

@[simp] theorem State.withGe_paramNat (s : State) (x : GrantEngine) (p : ParamId) : (s.withGe x).paramNat p = s.paramNat p := rfl
@[simp] theorem State.withTe_paramNat (s : State) (x : ThermalEstimator) (p : ParamId) : (s.withTe x).paramNat p = s.paramNat p := rfl
@[simp] theorem State.withMs_paramNat (s : State) (x : Vector ChainRecord 4) (p : ParamId) : (s.withMs x).paramNat p = s.paramNat p := rfl
@[simp] theorem State.withSa_paramNat (s : State) (x : SupplyAllocator) (p : ParamId) : (s.withSa x).paramNat p = s.paramNat p := rfl
@[simp] theorem State.withCs_paramNat (s : State) (x : CurveStore) (p : ParamId) : (s.withCs x).paramNat p = s.paramNat p := rfl
@[simp] theorem State.withCb_paramNat (s : State) (x : ConfigBanks) (p : ParamId) : (s.withCb x).paramNat p = s.paramNat p := rfl
@[simp] theorem State.withTi_paramNat (s : State) (x : TelemetryIntake) (p : ParamId) : (s.withTi x).paramNat p = s.paramNat p := rfl
@[simp] theorem State.withTg_paramNat (s : State) (x : TickGenerator) (p : ParamId) : (s.withTg x).paramNat p = s.paramNat p := rfl
@[simp] theorem State.withOl_paramNat (s : State) (x : ObservationLog) (p : ParamId) : (s.withOl x).paramNat p = s.paramNat p := rfl
@[simp] theorem State.withNu_paramNat (s : State) (x : NoticeUnit) (p : ParamId) : (s.withNu x).paramNat p = s.paramNat p := rfl
@[simp] theorem State.withLi_paramNat (s : State) (x : LinkInterface) (p : ParamId) : (s.withLi x).paramNat p = s.paramNat p := rfl
@[simp] theorem State.withPins_paramNat (s : State) (x : Pins) (p : ParamId) : (s.withPins x).paramNat p = s.paramNat p := rfl
@[simp] theorem State.withInHand_paramNat (s : State) (x : InHand) (p : ParamId) : (s.withInHand x).paramNat p = s.paramNat p := rfl
@[simp] theorem State.withPending_paramNat (s : State) (x : List Instr) (p : ParamId) : (s.withPending x).paramNat p = s.paramNat p := rfl

/-! ### The reading obsOf -/

@[simp] theorem State.withRh_obsOf (s : State) (x : RequestHandler) (k : ObsKind) : (s.withRh x).obsOf k = s.obsOf k := rfl
@[simp] theorem State.withGe_obsOf (s : State) (x : GrantEngine) (k : ObsKind) : (s.withGe x).obsOf k = s.obsOf k := rfl
@[simp] theorem State.withTe_obsOf (s : State) (x : ThermalEstimator) (k : ObsKind) : (s.withTe x).obsOf k = s.obsOf k := rfl
@[simp] theorem State.withMs_obsOf (s : State) (x : Vector ChainRecord 4) (k : ObsKind) : (s.withMs x).obsOf k = s.obsOf k := rfl
@[simp] theorem State.withSa_obsOf (s : State) (x : SupplyAllocator) (k : ObsKind) : (s.withSa x).obsOf k = s.obsOf k := rfl
@[simp] theorem State.withCs_obsOf (s : State) (x : CurveStore) (k : ObsKind) : (s.withCs x).obsOf k = s.obsOf k := rfl
@[simp] theorem State.withCb_obsOf (s : State) (x : ConfigBanks) (k : ObsKind) : (s.withCb x).obsOf k = s.obsOf k := rfl
@[simp] theorem State.withTg_obsOf (s : State) (x : TickGenerator) (k : ObsKind) : (s.withTg x).obsOf k = s.obsOf k := rfl
@[simp] theorem State.withOl_obsOf (s : State) (x : ObservationLog) (k : ObsKind) : (s.withOl x).obsOf k = s.obsOf k := rfl
@[simp] theorem State.withNu_obsOf (s : State) (x : NoticeUnit) (k : ObsKind) : (s.withNu x).obsOf k = s.obsOf k := rfl
@[simp] theorem State.withLi_obsOf (s : State) (x : LinkInterface) (k : ObsKind) : (s.withLi x).obsOf k = s.obsOf k := rfl
@[simp] theorem State.withPins_obsOf (s : State) (x : Pins) (k : ObsKind) : (s.withPins x).obsOf k = s.obsOf k := rfl
@[simp] theorem State.withInHand_obsOf (s : State) (x : InHand) (k : ObsKind) : (s.withInHand x).obsOf k = s.obsOf k := rfl
@[simp] theorem State.withPending_obsOf (s : State) (x : List Instr) (k : ObsKind) : (s.withPending x).obsOf k = s.obsOf k := rfl

/-! ### The reading isFresh -/

@[simp] theorem State.withRh_isFresh (s : State) (x : RequestHandler) (k : ObsKind) : (s.withRh x).isFresh k = s.isFresh k := rfl
@[simp] theorem State.withGe_isFresh (s : State) (x : GrantEngine) (k : ObsKind) : (s.withGe x).isFresh k = s.isFresh k := rfl
@[simp] theorem State.withTe_isFresh (s : State) (x : ThermalEstimator) (k : ObsKind) : (s.withTe x).isFresh k = s.isFresh k := rfl
@[simp] theorem State.withMs_isFresh (s : State) (x : Vector ChainRecord 4) (k : ObsKind) : (s.withMs x).isFresh k = s.isFresh k := rfl
@[simp] theorem State.withSa_isFresh (s : State) (x : SupplyAllocator) (k : ObsKind) : (s.withSa x).isFresh k = s.isFresh k := rfl
@[simp] theorem State.withCs_isFresh (s : State) (x : CurveStore) (k : ObsKind) : (s.withCs x).isFresh k = s.isFresh k := rfl
@[simp] theorem State.withCb_isFresh (s : State) (x : ConfigBanks) (k : ObsKind) : (s.withCb x).isFresh k = s.isFresh k := rfl
@[simp] theorem State.withTg_isFresh (s : State) (x : TickGenerator) (k : ObsKind) : (s.withTg x).isFresh k = s.isFresh k := rfl
@[simp] theorem State.withOl_isFresh (s : State) (x : ObservationLog) (k : ObsKind) : (s.withOl x).isFresh k = s.isFresh k := rfl
@[simp] theorem State.withNu_isFresh (s : State) (x : NoticeUnit) (k : ObsKind) : (s.withNu x).isFresh k = s.isFresh k := rfl
@[simp] theorem State.withLi_isFresh (s : State) (x : LinkInterface) (k : ObsKind) : (s.withLi x).isFresh k = s.isFresh k := rfl
@[simp] theorem State.withPins_isFresh (s : State) (x : Pins) (k : ObsKind) : (s.withPins x).isFresh k = s.isFresh k := rfl
@[simp] theorem State.withInHand_isFresh (s : State) (x : InHand) (k : ObsKind) : (s.withInHand x).isFresh k = s.isFresh k := rfl
@[simp] theorem State.withPending_isFresh (s : State) (x : List Instr) (k : ObsKind) : (s.withPending x).isFresh k = s.isFresh k := rfl

/-! ### The reading stamp -/

@[simp] theorem State.withRh_stamp (s : State) (x : RequestHandler) : (s.withRh x).stamp = s.stamp := rfl
@[simp] theorem State.withGe_stamp (s : State) (x : GrantEngine) : (s.withGe x).stamp = s.stamp := rfl
@[simp] theorem State.withTe_stamp (s : State) (x : ThermalEstimator) : (s.withTe x).stamp = s.stamp := rfl
@[simp] theorem State.withMs_stamp (s : State) (x : Vector ChainRecord 4) : (s.withMs x).stamp = s.stamp := rfl
@[simp] theorem State.withSa_stamp (s : State) (x : SupplyAllocator) : (s.withSa x).stamp = s.stamp := rfl
@[simp] theorem State.withCs_stamp (s : State) (x : CurveStore) : (s.withCs x).stamp = s.stamp := rfl
@[simp] theorem State.withCb_stamp (s : State) (x : ConfigBanks) : (s.withCb x).stamp = s.stamp := rfl
@[simp] theorem State.withTi_stamp (s : State) (x : TelemetryIntake) : (s.withTi x).stamp = s.stamp := rfl
@[simp] theorem State.withOl_stamp (s : State) (x : ObservationLog) : (s.withOl x).stamp = s.stamp := rfl
@[simp] theorem State.withNu_stamp (s : State) (x : NoticeUnit) : (s.withNu x).stamp = s.stamp := rfl
@[simp] theorem State.withLi_stamp (s : State) (x : LinkInterface) : (s.withLi x).stamp = s.stamp := rfl
@[simp] theorem State.withPins_stamp (s : State) (x : Pins) : (s.withPins x).stamp = s.stamp := rfl
@[simp] theorem State.withInHand_stamp (s : State) (x : InHand) : (s.withInHand x).stamp = s.stamp := rfl
@[simp] theorem State.withPending_stamp (s : State) (x : List Instr) : (s.withPending x).stamp = s.stamp := rfl

/-! ### The reading held -/

@[simp] theorem State.withRh_held (s : State) (x : RequestHandler) : (s.withRh x).held = s.held := rfl
@[simp] theorem State.withGe_held (s : State) (x : GrantEngine) : (s.withGe x).held = s.held := rfl
@[simp] theorem State.withTe_held (s : State) (x : ThermalEstimator) : (s.withTe x).held = s.held := rfl
@[simp] theorem State.withMs_held (s : State) (x : Vector ChainRecord 4) : (s.withMs x).held = s.held := rfl
@[simp] theorem State.withSa_held (s : State) (x : SupplyAllocator) : (s.withSa x).held = s.held := rfl
@[simp] theorem State.withCs_held (s : State) (x : CurveStore) : (s.withCs x).held = s.held := rfl
@[simp] theorem State.withCb_held (s : State) (x : ConfigBanks) : (s.withCb x).held = s.held := rfl
@[simp] theorem State.withTi_held (s : State) (x : TelemetryIntake) : (s.withTi x).held = s.held := rfl
@[simp] theorem State.withTg_held (s : State) (x : TickGenerator) : (s.withTg x).held = s.held := rfl
@[simp] theorem State.withOl_held (s : State) (x : ObservationLog) : (s.withOl x).held = s.held := rfl
@[simp] theorem State.withNu_held (s : State) (x : NoticeUnit) : (s.withNu x).held = s.held := rfl
@[simp] theorem State.withLi_held (s : State) (x : LinkInterface) : (s.withLi x).held = s.held := rfl
@[simp] theorem State.withInHand_held (s : State) (x : InHand) : (s.withInHand x).held = s.held := rfl
@[simp] theorem State.withPending_held (s : State) (x : List Instr) : (s.withPending x).held = s.held := rfl

/-! ### The reading notePlace -/

@[simp] theorem State.withRh_notePlace (s : State) (x : RequestHandler) : (s.withRh x).notePlace = s.notePlace := rfl
@[simp] theorem State.withGe_notePlace (s : State) (x : GrantEngine) : (s.withGe x).notePlace = s.notePlace := rfl
@[simp] theorem State.withTe_notePlace (s : State) (x : ThermalEstimator) : (s.withTe x).notePlace = s.notePlace := rfl
@[simp] theorem State.withMs_notePlace (s : State) (x : Vector ChainRecord 4) : (s.withMs x).notePlace = s.notePlace := rfl
@[simp] theorem State.withSa_notePlace (s : State) (x : SupplyAllocator) : (s.withSa x).notePlace = s.notePlace := rfl
@[simp] theorem State.withCs_notePlace (s : State) (x : CurveStore) : (s.withCs x).notePlace = s.notePlace := rfl
@[simp] theorem State.withCb_notePlace (s : State) (x : ConfigBanks) : (s.withCb x).notePlace = s.notePlace := rfl
@[simp] theorem State.withTi_notePlace (s : State) (x : TelemetryIntake) : (s.withTi x).notePlace = s.notePlace := rfl
@[simp] theorem State.withTg_notePlace (s : State) (x : TickGenerator) : (s.withTg x).notePlace = s.notePlace := rfl
@[simp] theorem State.withOl_notePlace (s : State) (x : ObservationLog) : (s.withOl x).notePlace = s.notePlace := rfl
@[simp] theorem State.withNu_notePlace (s : State) (x : NoticeUnit) : (s.withNu x).notePlace = s.notePlace := rfl
@[simp] theorem State.withPins_notePlace (s : State) (x : Pins) : (s.withPins x).notePlace = s.notePlace := rfl
@[simp] theorem State.withInHand_notePlace (s : State) (x : InHand) : (s.withInHand x).notePlace = s.notePlace := rfl
@[simp] theorem State.withPending_notePlace (s : State) (x : List Instr) : (s.withPending x).notePlace = s.notePlace := rfl

/-! ### The reading noticeWaits -/

@[simp] theorem State.withRh_noticeWaits (s : State) (x : RequestHandler) : (s.withRh x).noticeWaits = s.noticeWaits := rfl
@[simp] theorem State.withGe_noticeWaits (s : State) (x : GrantEngine) : (s.withGe x).noticeWaits = s.noticeWaits := rfl
@[simp] theorem State.withTe_noticeWaits (s : State) (x : ThermalEstimator) : (s.withTe x).noticeWaits = s.noticeWaits := rfl
@[simp] theorem State.withMs_noticeWaits (s : State) (x : Vector ChainRecord 4) : (s.withMs x).noticeWaits = s.noticeWaits := rfl
@[simp] theorem State.withSa_noticeWaits (s : State) (x : SupplyAllocator) : (s.withSa x).noticeWaits = s.noticeWaits := rfl
@[simp] theorem State.withCs_noticeWaits (s : State) (x : CurveStore) : (s.withCs x).noticeWaits = s.noticeWaits := rfl
@[simp] theorem State.withCb_noticeWaits (s : State) (x : ConfigBanks) : (s.withCb x).noticeWaits = s.noticeWaits := rfl
@[simp] theorem State.withTi_noticeWaits (s : State) (x : TelemetryIntake) : (s.withTi x).noticeWaits = s.noticeWaits := rfl
@[simp] theorem State.withTg_noticeWaits (s : State) (x : TickGenerator) : (s.withTg x).noticeWaits = s.noticeWaits := rfl
@[simp] theorem State.withOl_noticeWaits (s : State) (x : ObservationLog) : (s.withOl x).noticeWaits = s.noticeWaits := rfl
@[simp] theorem State.withNu_noticeWaits (s : State) (x : NoticeUnit) : (s.withNu x).noticeWaits = s.noticeWaits := rfl
@[simp] theorem State.withPins_noticeWaits (s : State) (x : Pins) : (s.withPins x).noticeWaits = s.noticeWaits := rfl
@[simp] theorem State.withInHand_noticeWaits (s : State) (x : InHand) : (s.withInHand x).noticeWaits = s.noticeWaits := rfl
@[simp] theorem State.withPending_noticeWaits (s : State) (x : List Instr) : (s.withPending x).noticeWaits = s.noticeWaits := rfl

/-! ### The reading enableSet -/

@[simp] theorem State.withGe_enableSet (s : State) (x : GrantEngine) : (s.withGe x).enableSet = s.enableSet := rfl
@[simp] theorem State.withTe_enableSet (s : State) (x : ThermalEstimator) : (s.withTe x).enableSet = s.enableSet := rfl
@[simp] theorem State.withMs_enableSet (s : State) (x : Vector ChainRecord 4) : (s.withMs x).enableSet = s.enableSet := rfl
@[simp] theorem State.withSa_enableSet (s : State) (x : SupplyAllocator) : (s.withSa x).enableSet = s.enableSet := rfl
@[simp] theorem State.withCs_enableSet (s : State) (x : CurveStore) : (s.withCs x).enableSet = s.enableSet := rfl
@[simp] theorem State.withCb_enableSet (s : State) (x : ConfigBanks) : (s.withCb x).enableSet = s.enableSet := rfl
@[simp] theorem State.withTi_enableSet (s : State) (x : TelemetryIntake) : (s.withTi x).enableSet = s.enableSet := rfl
@[simp] theorem State.withTg_enableSet (s : State) (x : TickGenerator) : (s.withTg x).enableSet = s.enableSet := rfl
@[simp] theorem State.withOl_enableSet (s : State) (x : ObservationLog) : (s.withOl x).enableSet = s.enableSet := rfl
@[simp] theorem State.withNu_enableSet (s : State) (x : NoticeUnit) : (s.withNu x).enableSet = s.enableSet := rfl
@[simp] theorem State.withLi_enableSet (s : State) (x : LinkInterface) : (s.withLi x).enableSet = s.enableSet := rfl
@[simp] theorem State.withPins_enableSet (s : State) (x : Pins) : (s.withPins x).enableSet = s.enableSet := rfl
@[simp] theorem State.withInHand_enableSet (s : State) (x : InHand) : (s.withInHand x).enableSet = s.enableSet := rfl
@[simp] theorem State.withPending_enableSet (s : State) (x : List Instr) : (s.withPending x).enableSet = s.enableSet := rfl

/-! ### The reading latched -/

@[simp] theorem State.withGe_latched (s : State) (x : GrantEngine) : (s.withGe x).latched = s.latched := rfl
@[simp] theorem State.withTe_latched (s : State) (x : ThermalEstimator) : (s.withTe x).latched = s.latched := rfl
@[simp] theorem State.withMs_latched (s : State) (x : Vector ChainRecord 4) : (s.withMs x).latched = s.latched := rfl
@[simp] theorem State.withSa_latched (s : State) (x : SupplyAllocator) : (s.withSa x).latched = s.latched := rfl
@[simp] theorem State.withCs_latched (s : State) (x : CurveStore) : (s.withCs x).latched = s.latched := rfl
@[simp] theorem State.withCb_latched (s : State) (x : ConfigBanks) : (s.withCb x).latched = s.latched := rfl
@[simp] theorem State.withTi_latched (s : State) (x : TelemetryIntake) : (s.withTi x).latched = s.latched := rfl
@[simp] theorem State.withTg_latched (s : State) (x : TickGenerator) : (s.withTg x).latched = s.latched := rfl
@[simp] theorem State.withOl_latched (s : State) (x : ObservationLog) : (s.withOl x).latched = s.latched := rfl
@[simp] theorem State.withNu_latched (s : State) (x : NoticeUnit) : (s.withNu x).latched = s.latched := rfl
@[simp] theorem State.withLi_latched (s : State) (x : LinkInterface) : (s.withLi x).latched = s.latched := rfl
@[simp] theorem State.withPins_latched (s : State) (x : Pins) : (s.withPins x).latched = s.latched := rfl
@[simp] theorem State.withInHand_latched (s : State) (x : InHand) : (s.withInHand x).latched = s.latched := rfl
@[simp] theorem State.withPending_latched (s : State) (x : List Instr) : (s.withPending x).latched = s.latched := rfl

/-! ### The reading deliverable -/

@[simp] theorem State.withGe_deliverable (s : State) (x : GrantEngine) : (s.withGe x).deliverable = s.deliverable := rfl
@[simp] theorem State.withTe_deliverable (s : State) (x : ThermalEstimator) : (s.withTe x).deliverable = s.deliverable := rfl
@[simp] theorem State.withMs_deliverable (s : State) (x : Vector ChainRecord 4) : (s.withMs x).deliverable = s.deliverable := rfl
@[simp] theorem State.withSa_deliverable (s : State) (x : SupplyAllocator) : (s.withSa x).deliverable = s.deliverable := rfl
@[simp] theorem State.withCs_deliverable (s : State) (x : CurveStore) : (s.withCs x).deliverable = s.deliverable := rfl
@[simp] theorem State.withCb_deliverable (s : State) (x : ConfigBanks) : (s.withCb x).deliverable = s.deliverable := rfl
@[simp] theorem State.withTi_deliverable (s : State) (x : TelemetryIntake) : (s.withTi x).deliverable = s.deliverable := rfl
@[simp] theorem State.withTg_deliverable (s : State) (x : TickGenerator) : (s.withTg x).deliverable = s.deliverable := rfl
@[simp] theorem State.withOl_deliverable (s : State) (x : ObservationLog) : (s.withOl x).deliverable = s.deliverable := rfl
@[simp] theorem State.withLi_deliverable (s : State) (x : LinkInterface) : (s.withLi x).deliverable = s.deliverable := rfl
@[simp] theorem State.withPins_deliverable (s : State) (x : Pins) : (s.withPins x).deliverable = s.deliverable := rfl
@[simp] theorem State.withInHand_deliverable (s : State) (x : InHand) : (s.withInHand x).deliverable = s.deliverable := rfl
@[simp] theorem State.withPending_deliverable (s : State) (x : List Instr) : (s.withPending x).deliverable = s.deliverable := rfl

/-! ### The reading boardRef -/

@[simp] theorem State.withGe_boardRef (s : State) (x : GrantEngine) : (s.withGe x).boardRef = s.boardRef := rfl
@[simp] theorem State.withTe_boardRef (s : State) (x : ThermalEstimator) : (s.withTe x).boardRef = s.boardRef := rfl
@[simp] theorem State.withMs_boardRef (s : State) (x : Vector ChainRecord 4) : (s.withMs x).boardRef = s.boardRef := rfl
@[simp] theorem State.withSa_boardRef (s : State) (x : SupplyAllocator) : (s.withSa x).boardRef = s.boardRef := rfl
@[simp] theorem State.withCs_boardRef (s : State) (x : CurveStore) : (s.withCs x).boardRef = s.boardRef := rfl
@[simp] theorem State.withCb_boardRef (s : State) (x : ConfigBanks) : (s.withCb x).boardRef = s.boardRef := rfl
@[simp] theorem State.withTg_boardRef (s : State) (x : TickGenerator) : (s.withTg x).boardRef = s.boardRef := rfl
@[simp] theorem State.withOl_boardRef (s : State) (x : ObservationLog) : (s.withOl x).boardRef = s.boardRef := rfl
@[simp] theorem State.withNu_boardRef (s : State) (x : NoticeUnit) : (s.withNu x).boardRef = s.boardRef := rfl
@[simp] theorem State.withLi_boardRef (s : State) (x : LinkInterface) : (s.withLi x).boardRef = s.boardRef := rfl
@[simp] theorem State.withPins_boardRef (s : State) (x : Pins) : (s.withPins x).boardRef = s.boardRef := rfl
@[simp] theorem State.withInHand_boardRef (s : State) (x : InHand) : (s.withInHand x).boardRef = s.boardRef := rfl
@[simp] theorem State.withPending_boardRef (s : State) (x : List Instr) : (s.withPending x).boardRef = s.boardRef := rfl

/-! ### The reading thetaEst -/

@[simp] theorem State.withGe_thetaEst (s : State) (x : GrantEngine) (m : Module) : (s.withGe x).thetaEst m = s.thetaEst m := rfl
@[simp] theorem State.withMs_thetaEst (s : State) (x : Vector ChainRecord 4) (m : Module) : (s.withMs x).thetaEst m = s.thetaEst m := rfl
@[simp] theorem State.withSa_thetaEst (s : State) (x : SupplyAllocator) (m : Module) : (s.withSa x).thetaEst m = s.thetaEst m := rfl
@[simp] theorem State.withCs_thetaEst (s : State) (x : CurveStore) (m : Module) : (s.withCs x).thetaEst m = s.thetaEst m := rfl
@[simp] theorem State.withCb_thetaEst (s : State) (x : ConfigBanks) (m : Module) : (s.withCb x).thetaEst m = s.thetaEst m := rfl
@[simp] theorem State.withTg_thetaEst (s : State) (x : TickGenerator) (m : Module) : (s.withTg x).thetaEst m = s.thetaEst m := rfl
@[simp] theorem State.withOl_thetaEst (s : State) (x : ObservationLog) (m : Module) : (s.withOl x).thetaEst m = s.thetaEst m := rfl
@[simp] theorem State.withNu_thetaEst (s : State) (x : NoticeUnit) (m : Module) : (s.withNu x).thetaEst m = s.thetaEst m := rfl
@[simp] theorem State.withLi_thetaEst (s : State) (x : LinkInterface) (m : Module) : (s.withLi x).thetaEst m = s.thetaEst m := rfl
@[simp] theorem State.withPins_thetaEst (s : State) (x : Pins) (m : Module) : (s.withPins x).thetaEst m = s.thetaEst m := rfl
@[simp] theorem State.withInHand_thetaEst (s : State) (x : InHand) (m : Module) : (s.withInHand x).thetaEst m = s.thetaEst m := rfl
@[simp] theorem State.withPending_thetaEst (s : State) (x : List Instr) (m : Module) : (s.withPending x).thetaEst m = s.thetaEst m := rfl

/-! ### The reading baseAllowance -/

@[simp] theorem State.withGe_baseAllowance (s : State) (x : GrantEngine) : (s.withGe x).baseAllowance = s.baseAllowance := rfl
@[simp] theorem State.withTe_baseAllowance (s : State) (x : ThermalEstimator) : (s.withTe x).baseAllowance = s.baseAllowance := rfl
@[simp] theorem State.withMs_baseAllowance (s : State) (x : Vector ChainRecord 4) : (s.withMs x).baseAllowance = s.baseAllowance := rfl
@[simp] theorem State.withSa_baseAllowance (s : State) (x : SupplyAllocator) : (s.withSa x).baseAllowance = s.baseAllowance := rfl
@[simp] theorem State.withTg_baseAllowance (s : State) (x : TickGenerator) : (s.withTg x).baseAllowance = s.baseAllowance := rfl
@[simp] theorem State.withOl_baseAllowance (s : State) (x : ObservationLog) : (s.withOl x).baseAllowance = s.baseAllowance := rfl
@[simp] theorem State.withNu_baseAllowance (s : State) (x : NoticeUnit) : (s.withNu x).baseAllowance = s.baseAllowance := rfl
@[simp] theorem State.withLi_baseAllowance (s : State) (x : LinkInterface) : (s.withLi x).baseAllowance = s.baseAllowance := rfl
@[simp] theorem State.withPins_baseAllowance (s : State) (x : Pins) : (s.withPins x).baseAllowance = s.baseAllowance := rfl
@[simp] theorem State.withInHand_baseAllowance (s : State) (x : InHand) : (s.withInHand x).baseAllowance = s.baseAllowance := rfl
@[simp] theorem State.withPending_baseAllowance (s : State) (x : List Instr) : (s.withPending x).baseAllowance = s.baseAllowance := rfl

/-! ### The reading allowance -/

@[simp] theorem State.withGe_allowance (s : State) (x : GrantEngine) : (s.withGe x).allowance = s.allowance := rfl
@[simp] theorem State.withTe_allowance (s : State) (x : ThermalEstimator) : (s.withTe x).allowance = s.allowance := rfl
@[simp] theorem State.withMs_allowance (s : State) (x : Vector ChainRecord 4) : (s.withMs x).allowance = s.allowance := rfl
@[simp] theorem State.withTg_allowance (s : State) (x : TickGenerator) : (s.withTg x).allowance = s.allowance := rfl
@[simp] theorem State.withOl_allowance (s : State) (x : ObservationLog) : (s.withOl x).allowance = s.allowance := rfl
@[simp] theorem State.withNu_allowance (s : State) (x : NoticeUnit) : (s.withNu x).allowance = s.allowance := rfl
@[simp] theorem State.withLi_allowance (s : State) (x : LinkInterface) : (s.withLi x).allowance = s.allowance := rfl
@[simp] theorem State.withPins_allowance (s : State) (x : Pins) : (s.withPins x).allowance = s.allowance := rfl
@[simp] theorem State.withInHand_allowance (s : State) (x : InHand) : (s.withInHand x).allowance = s.allowance := rfl
@[simp] theorem State.withPending_allowance (s : State) (x : List Instr) : (s.withPending x).allowance = s.allowance := rfl

/-! ### The reading pinned -/

@[simp] theorem State.withRh_pinned (s : State) (x : RequestHandler) (n : Fin 16) : (s.withRh x).pinned n = s.pinned n := rfl
@[simp] theorem State.withGe_pinned (s : State) (x : GrantEngine) (n : Fin 16) : (s.withGe x).pinned n = s.pinned n := rfl
@[simp] theorem State.withTe_pinned (s : State) (x : ThermalEstimator) (n : Fin 16) : (s.withTe x).pinned n = s.pinned n := rfl
@[simp] theorem State.withMs_pinned (s : State) (x : Vector ChainRecord 4) (n : Fin 16) : (s.withMs x).pinned n = s.pinned n := rfl
@[simp] theorem State.withSa_pinned (s : State) (x : SupplyAllocator) (n : Fin 16) : (s.withSa x).pinned n = s.pinned n := rfl
@[simp] theorem State.withCs_pinned (s : State) (x : CurveStore) (n : Fin 16) : (s.withCs x).pinned n = s.pinned n := rfl
@[simp] theorem State.withTi_pinned (s : State) (x : TelemetryIntake) (n : Fin 16) : (s.withTi x).pinned n = s.pinned n := rfl
@[simp] theorem State.withTg_pinned (s : State) (x : TickGenerator) (n : Fin 16) : (s.withTg x).pinned n = s.pinned n := rfl
@[simp] theorem State.withOl_pinned (s : State) (x : ObservationLog) (n : Fin 16) : (s.withOl x).pinned n = s.pinned n := rfl
@[simp] theorem State.withNu_pinned (s : State) (x : NoticeUnit) (n : Fin 16) : (s.withNu x).pinned n = s.pinned n := rfl
@[simp] theorem State.withLi_pinned (s : State) (x : LinkInterface) (n : Fin 16) : (s.withLi x).pinned n = s.pinned n := rfl
@[simp] theorem State.withPins_pinned (s : State) (x : Pins) (n : Fin 16) : (s.withPins x).pinned n = s.pinned n := rfl
@[simp] theorem State.withInHand_pinned (s : State) (x : InHand) (n : Fin 16) : (s.withInHand x).pinned n = s.pinned n := rfl
@[simp] theorem State.withPending_pinned (s : State) (x : List Instr) (n : Fin 16) : (s.withPending x).pinned n = s.pinned n := rfl

/-! ### Storing one item -/

@[simp] theorem State.setParam_ge (s : State) (p : ParamId) (v : Int) : (s.setParam p v).ge = s.ge := rfl
@[simp] theorem State.setParam_te (s : State) (p : ParamId) (v : Int) : (s.setParam p v).te = s.te := rfl
@[simp] theorem State.setParam_ms (s : State) (p : ParamId) (v : Int) : (s.setParam p v).ms = s.ms := rfl
@[simp] theorem State.setParam_sa (s : State) (p : ParamId) (v : Int) : (s.setParam p v).sa = s.sa := rfl
@[simp] theorem State.setParam_cs (s : State) (p : ParamId) (v : Int) : (s.setParam p v).cs = s.cs := rfl
@[simp] theorem State.setParam_cb (s : State) (p : ParamId) (v : Int) : (s.setParam p v).cb = s.cb := rfl
@[simp] theorem State.setParam_ti (s : State) (p : ParamId) (v : Int) : (s.setParam p v).ti = s.ti := rfl
@[simp] theorem State.setParam_tg (s : State) (p : ParamId) (v : Int) : (s.setParam p v).tg = s.tg := rfl
@[simp] theorem State.setParam_ol (s : State) (p : ParamId) (v : Int) : (s.setParam p v).ol = s.ol := rfl
@[simp] theorem State.setParam_nu (s : State) (p : ParamId) (v : Int) : (s.setParam p v).nu = s.nu := rfl
@[simp] theorem State.setParam_li (s : State) (p : ParamId) (v : Int) : (s.setParam p v).li = s.li := rfl
@[simp] theorem State.setParam_pins (s : State) (p : ParamId) (v : Int) : (s.setParam p v).pins = s.pins := rfl
@[simp] theorem State.setParam_inHand (s : State) (p : ParamId) (v : Int) : (s.setParam p v).inHand = s.inHand := rfl
@[simp] theorem State.setParam_pending (s : State) (p : ParamId) (v : Int) : (s.setParam p v).pending = s.pending := rfl
@[simp] theorem State.setObs_rh (s : State) (k : ObsKind) (ob : Observation) : (s.setObs k ob).rh = s.rh := rfl
@[simp] theorem State.setObs_ge (s : State) (k : ObsKind) (ob : Observation) : (s.setObs k ob).ge = s.ge := rfl
@[simp] theorem State.setObs_te (s : State) (k : ObsKind) (ob : Observation) : (s.setObs k ob).te = s.te := rfl
@[simp] theorem State.setObs_ms (s : State) (k : ObsKind) (ob : Observation) : (s.setObs k ob).ms = s.ms := rfl
@[simp] theorem State.setObs_sa (s : State) (k : ObsKind) (ob : Observation) : (s.setObs k ob).sa = s.sa := rfl
@[simp] theorem State.setObs_cs (s : State) (k : ObsKind) (ob : Observation) : (s.setObs k ob).cs = s.cs := rfl
@[simp] theorem State.setObs_cb (s : State) (k : ObsKind) (ob : Observation) : (s.setObs k ob).cb = s.cb := rfl
@[simp] theorem State.setObs_tg (s : State) (k : ObsKind) (ob : Observation) : (s.setObs k ob).tg = s.tg := rfl
@[simp] theorem State.setObs_ol (s : State) (k : ObsKind) (ob : Observation) : (s.setObs k ob).ol = s.ol := rfl
@[simp] theorem State.setObs_nu (s : State) (k : ObsKind) (ob : Observation) : (s.setObs k ob).nu = s.nu := rfl
@[simp] theorem State.setObs_li (s : State) (k : ObsKind) (ob : Observation) : (s.setObs k ob).li = s.li := rfl
@[simp] theorem State.setObs_pins (s : State) (k : ObsKind) (ob : Observation) : (s.setObs k ob).pins = s.pins := rfl
@[simp] theorem State.setObs_inHand (s : State) (k : ObsKind) (ob : Observation) : (s.setObs k ob).inHand = s.inHand := rfl
@[simp] theorem State.setObs_pending (s : State) (k : ObsKind) (ob : Observation) : (s.setObs k ob).pending = s.pending := rfl
@[simp] theorem State.setChain_rh (s : State) (c : Chain) (r : ChainRecord) : (s.setChain c r).rh = s.rh := rfl
@[simp] theorem State.setChain_ge (s : State) (c : Chain) (r : ChainRecord) : (s.setChain c r).ge = s.ge := rfl
@[simp] theorem State.setChain_te (s : State) (c : Chain) (r : ChainRecord) : (s.setChain c r).te = s.te := rfl
@[simp] theorem State.setChain_sa (s : State) (c : Chain) (r : ChainRecord) : (s.setChain c r).sa = s.sa := rfl
@[simp] theorem State.setChain_cs (s : State) (c : Chain) (r : ChainRecord) : (s.setChain c r).cs = s.cs := rfl
@[simp] theorem State.setChain_cb (s : State) (c : Chain) (r : ChainRecord) : (s.setChain c r).cb = s.cb := rfl
@[simp] theorem State.setChain_ti (s : State) (c : Chain) (r : ChainRecord) : (s.setChain c r).ti = s.ti := rfl
@[simp] theorem State.setChain_tg (s : State) (c : Chain) (r : ChainRecord) : (s.setChain c r).tg = s.tg := rfl
@[simp] theorem State.setChain_ol (s : State) (c : Chain) (r : ChainRecord) : (s.setChain c r).ol = s.ol := rfl
@[simp] theorem State.setChain_nu (s : State) (c : Chain) (r : ChainRecord) : (s.setChain c r).nu = s.nu := rfl
@[simp] theorem State.setChain_li (s : State) (c : Chain) (r : ChainRecord) : (s.setChain c r).li = s.li := rfl
@[simp] theorem State.setChain_pins (s : State) (c : Chain) (r : ChainRecord) : (s.setChain c r).pins = s.pins := rfl
@[simp] theorem State.setChain_inHand (s : State) (c : Chain) (r : ChainRecord) : (s.setChain c r).inHand = s.inHand := rfl
@[simp] theorem State.setChain_pending (s : State) (c : Chain) (r : ChainRecord) : (s.setChain c r).pending = s.pending := rfl
@[simp] theorem State.setSlew_rh (s : State) (c : Chain) (m : SlewMemory) : (s.setSlew c m).rh = s.rh := rfl
@[simp] theorem State.setSlew_te (s : State) (c : Chain) (m : SlewMemory) : (s.setSlew c m).te = s.te := rfl
@[simp] theorem State.setSlew_ms (s : State) (c : Chain) (m : SlewMemory) : (s.setSlew c m).ms = s.ms := rfl
@[simp] theorem State.setSlew_sa (s : State) (c : Chain) (m : SlewMemory) : (s.setSlew c m).sa = s.sa := rfl
@[simp] theorem State.setSlew_cs (s : State) (c : Chain) (m : SlewMemory) : (s.setSlew c m).cs = s.cs := rfl
@[simp] theorem State.setSlew_cb (s : State) (c : Chain) (m : SlewMemory) : (s.setSlew c m).cb = s.cb := rfl
@[simp] theorem State.setSlew_ti (s : State) (c : Chain) (m : SlewMemory) : (s.setSlew c m).ti = s.ti := rfl
@[simp] theorem State.setSlew_tg (s : State) (c : Chain) (m : SlewMemory) : (s.setSlew c m).tg = s.tg := rfl
@[simp] theorem State.setSlew_ol (s : State) (c : Chain) (m : SlewMemory) : (s.setSlew c m).ol = s.ol := rfl
@[simp] theorem State.setSlew_nu (s : State) (c : Chain) (m : SlewMemory) : (s.setSlew c m).nu = s.nu := rfl
@[simp] theorem State.setSlew_li (s : State) (c : Chain) (m : SlewMemory) : (s.setSlew c m).li = s.li := rfl
@[simp] theorem State.setSlew_pins (s : State) (c : Chain) (m : SlewMemory) : (s.setSlew c m).pins = s.pins := rfl
@[simp] theorem State.setSlew_inHand (s : State) (c : Chain) (m : SlewMemory) : (s.setSlew c m).inHand = s.inHand := rfl
@[simp] theorem State.setSlew_pending (s : State) (c : Chain) (m : SlewMemory) : (s.setSlew c m).pending = s.pending := rfl
@[simp] theorem State.queueGov_rh (s : State) (f : GovFrame) : (s.queueGov f).rh = s.rh := rfl
@[simp] theorem State.queueGov_ge (s : State) (f : GovFrame) : (s.queueGov f).ge = s.ge := rfl
@[simp] theorem State.queueGov_te (s : State) (f : GovFrame) : (s.queueGov f).te = s.te := rfl
@[simp] theorem State.queueGov_ms (s : State) (f : GovFrame) : (s.queueGov f).ms = s.ms := rfl
@[simp] theorem State.queueGov_sa (s : State) (f : GovFrame) : (s.queueGov f).sa = s.sa := rfl
@[simp] theorem State.queueGov_cs (s : State) (f : GovFrame) : (s.queueGov f).cs = s.cs := rfl
@[simp] theorem State.queueGov_cb (s : State) (f : GovFrame) : (s.queueGov f).cb = s.cb := rfl
@[simp] theorem State.queueGov_ti (s : State) (f : GovFrame) : (s.queueGov f).ti = s.ti := rfl
@[simp] theorem State.queueGov_tg (s : State) (f : GovFrame) : (s.queueGov f).tg = s.tg := rfl
@[simp] theorem State.queueGov_ol (s : State) (f : GovFrame) : (s.queueGov f).ol = s.ol := rfl
@[simp] theorem State.queueGov_nu (s : State) (f : GovFrame) : (s.queueGov f).nu = s.nu := rfl
@[simp] theorem State.queueGov_pins (s : State) (f : GovFrame) : (s.queueGov f).pins = s.pins := rfl
@[simp] theorem State.queueGov_inHand (s : State) (f : GovFrame) : (s.queueGov f).inHand = s.inHand := rfl
@[simp] theorem State.queueGov_pending (s : State) (f : GovFrame) : (s.queueGov f).pending = s.pending := rfl
@[simp] theorem State.mergeNotice_rh (s : State) (d : ClassSet) : (s.mergeNotice d).rh = s.rh := rfl
@[simp] theorem State.mergeNotice_ge (s : State) (d : ClassSet) : (s.mergeNotice d).ge = s.ge := rfl
@[simp] theorem State.mergeNotice_te (s : State) (d : ClassSet) : (s.mergeNotice d).te = s.te := rfl
@[simp] theorem State.mergeNotice_ms (s : State) (d : ClassSet) : (s.mergeNotice d).ms = s.ms := rfl
@[simp] theorem State.mergeNotice_sa (s : State) (d : ClassSet) : (s.mergeNotice d).sa = s.sa := rfl
@[simp] theorem State.mergeNotice_cs (s : State) (d : ClassSet) : (s.mergeNotice d).cs = s.cs := rfl
@[simp] theorem State.mergeNotice_cb (s : State) (d : ClassSet) : (s.mergeNotice d).cb = s.cb := rfl
@[simp] theorem State.mergeNotice_ti (s : State) (d : ClassSet) : (s.mergeNotice d).ti = s.ti := rfl
@[simp] theorem State.mergeNotice_tg (s : State) (d : ClassSet) : (s.mergeNotice d).tg = s.tg := rfl
@[simp] theorem State.mergeNotice_ol (s : State) (d : ClassSet) : (s.mergeNotice d).ol = s.ol := rfl
@[simp] theorem State.mergeNotice_nu (s : State) (d : ClassSet) : (s.mergeNotice d).nu = s.nu := rfl
@[simp] theorem State.mergeNotice_pins (s : State) (d : ClassSet) : (s.mergeNotice d).pins = s.pins := rfl
@[simp] theorem State.mergeNotice_inHand (s : State) (d : ClassSet) : (s.mergeNotice d).inHand = s.inHand := rfl
@[simp] theorem State.mergeNotice_pending (s : State) (d : ClassSet) : (s.mergeNotice d).pending = s.pending := rfl
@[simp] theorem State.setStandbyBank_rh (s : State) (b : Bank) : (s.setStandbyBank b).rh = s.rh := rfl
@[simp] theorem State.setStandbyBank_ge (s : State) (b : Bank) : (s.setStandbyBank b).ge = s.ge := rfl
@[simp] theorem State.setStandbyBank_te (s : State) (b : Bank) : (s.setStandbyBank b).te = s.te := rfl
@[simp] theorem State.setStandbyBank_ms (s : State) (b : Bank) : (s.setStandbyBank b).ms = s.ms := rfl
@[simp] theorem State.setStandbyBank_sa (s : State) (b : Bank) : (s.setStandbyBank b).sa = s.sa := rfl
@[simp] theorem State.setStandbyBank_cs (s : State) (b : Bank) : (s.setStandbyBank b).cs = s.cs := rfl
@[simp] theorem State.setStandbyBank_ti (s : State) (b : Bank) : (s.setStandbyBank b).ti = s.ti := rfl
@[simp] theorem State.setStandbyBank_tg (s : State) (b : Bank) : (s.setStandbyBank b).tg = s.tg := rfl
@[simp] theorem State.setStandbyBank_ol (s : State) (b : Bank) : (s.setStandbyBank b).ol = s.ol := rfl
@[simp] theorem State.setStandbyBank_nu (s : State) (b : Bank) : (s.setStandbyBank b).nu = s.nu := rfl
@[simp] theorem State.setStandbyBank_li (s : State) (b : Bank) : (s.setStandbyBank b).li = s.li := rfl
@[simp] theorem State.setStandbyBank_pins (s : State) (b : Bank) : (s.setStandbyBank b).pins = s.pins := rfl
@[simp] theorem State.setStandbyBank_inHand (s : State) (b : Bank) : (s.setStandbyBank b).inHand = s.inHand := rfl
@[simp] theorem State.setStandbyBank_pending (s : State) (b : Bank) : (s.setStandbyBank b).pending = s.pending := rfl
@[simp] theorem State.setSlot_rh (s : State) (n : Fin 16) (c : CurveSlot) : (s.setSlot n c).rh = s.rh := rfl
@[simp] theorem State.setSlot_ge (s : State) (n : Fin 16) (c : CurveSlot) : (s.setSlot n c).ge = s.ge := rfl
@[simp] theorem State.setSlot_te (s : State) (n : Fin 16) (c : CurveSlot) : (s.setSlot n c).te = s.te := rfl
@[simp] theorem State.setSlot_ms (s : State) (n : Fin 16) (c : CurveSlot) : (s.setSlot n c).ms = s.ms := rfl
@[simp] theorem State.setSlot_sa (s : State) (n : Fin 16) (c : CurveSlot) : (s.setSlot n c).sa = s.sa := rfl
@[simp] theorem State.setSlot_cb (s : State) (n : Fin 16) (c : CurveSlot) : (s.setSlot n c).cb = s.cb := rfl
@[simp] theorem State.setSlot_ti (s : State) (n : Fin 16) (c : CurveSlot) : (s.setSlot n c).ti = s.ti := rfl
@[simp] theorem State.setSlot_tg (s : State) (n : Fin 16) (c : CurveSlot) : (s.setSlot n c).tg = s.tg := rfl
@[simp] theorem State.setSlot_ol (s : State) (n : Fin 16) (c : CurveSlot) : (s.setSlot n c).ol = s.ol := rfl
@[simp] theorem State.setSlot_nu (s : State) (n : Fin 16) (c : CurveSlot) : (s.setSlot n c).nu = s.nu := rfl
@[simp] theorem State.setSlot_li (s : State) (n : Fin 16) (c : CurveSlot) : (s.setSlot n c).li = s.li := rfl
@[simp] theorem State.setSlot_pins (s : State) (n : Fin 16) (c : CurveSlot) : (s.setSlot n c).pins = s.pins := rfl
@[simp] theorem State.setSlot_inHand (s : State) (n : Fin 16) (c : CurveSlot) : (s.setSlot n c).inHand = s.inHand := rfl
@[simp] theorem State.setSlot_pending (s : State) (n : Fin 16) (c : CurveSlot) : (s.setSlot n c).pending = s.pending := rfl
@[simp] theorem State.restartTiming_rh (s : State) : (s.restartTiming).rh = s.rh := rfl
@[simp] theorem State.restartTiming_ge (s : State) : (s.restartTiming).ge = s.ge := rfl
@[simp] theorem State.restartTiming_te (s : State) : (s.restartTiming).te = s.te := rfl
@[simp] theorem State.restartTiming_ms (s : State) : (s.restartTiming).ms = s.ms := rfl
@[simp] theorem State.restartTiming_sa (s : State) : (s.restartTiming).sa = s.sa := rfl
@[simp] theorem State.restartTiming_cs (s : State) : (s.restartTiming).cs = s.cs := rfl
@[simp] theorem State.restartTiming_cb (s : State) : (s.restartTiming).cb = s.cb := rfl
@[simp] theorem State.restartTiming_ti (s : State) : (s.restartTiming).ti = s.ti := rfl
@[simp] theorem State.restartTiming_ol (s : State) : (s.restartTiming).ol = s.ol := rfl
@[simp] theorem State.restartTiming_nu (s : State) : (s.restartTiming).nu = s.nu := rfl
@[simp] theorem State.restartTiming_li (s : State) : (s.restartTiming).li = s.li := rfl
@[simp] theorem State.restartTiming_pins (s : State) : (s.restartTiming).pins = s.pins := rfl
@[simp] theorem State.restartTiming_inHand (s : State) : (s.restartTiming).inHand = s.inHand := rfl
@[simp] theorem State.restartTiming_pending (s : State) : (s.restartTiming).pending = s.pending := rfl
@[simp] theorem State.streamLive_rh (s : State) : (s.streamLive).rh = s.rh := rfl
@[simp] theorem State.streamLive_te (s : State) : (s.streamLive).te = s.te := rfl
@[simp] theorem State.streamLive_ms (s : State) : (s.streamLive).ms = s.ms := rfl
@[simp] theorem State.streamLive_sa (s : State) : (s.streamLive).sa = s.sa := rfl
@[simp] theorem State.streamLive_cs (s : State) : (s.streamLive).cs = s.cs := rfl
@[simp] theorem State.streamLive_cb (s : State) : (s.streamLive).cb = s.cb := rfl
@[simp] theorem State.streamLive_ti (s : State) : (s.streamLive).ti = s.ti := rfl
@[simp] theorem State.streamLive_tg (s : State) : (s.streamLive).tg = s.tg := rfl
@[simp] theorem State.streamLive_ol (s : State) : (s.streamLive).ol = s.ol := rfl
@[simp] theorem State.streamLive_nu (s : State) : (s.streamLive).nu = s.nu := rfl
@[simp] theorem State.streamLive_li (s : State) : (s.streamLive).li = s.li := rfl
@[simp] theorem State.streamLive_pins (s : State) : (s.streamLive).pins = s.pins := rfl
@[simp] theorem State.streamLive_ge (s : State) : (s.streamLive).ge = { s.ge with stream := .live, quietCount := 0 } := rfl
@[simp] theorem State.streamLive_inHand (s : State) :
    (s.streamLive).inHand = { s.inHand with tick := { s.inHand.tick with ordered := s.inHand.tick.ge } } := rfl
@[simp] theorem State.streamLive_pending (s : State) : (s.streamLive).pending = s.pending := rfl
@[simp] theorem State.clearIntake_rh (s : State) : (s.clearIntake).rh = s.rh := rfl
@[simp] theorem State.clearIntake_ge (s : State) : (s.clearIntake).ge = s.ge := rfl
@[simp] theorem State.clearIntake_te (s : State) : (s.clearIntake).te = s.te := rfl
@[simp] theorem State.clearIntake_ms (s : State) : (s.clearIntake).ms = s.ms := rfl
@[simp] theorem State.clearIntake_sa (s : State) : (s.clearIntake).sa = s.sa := rfl
@[simp] theorem State.clearIntake_cs (s : State) : (s.clearIntake).cs = s.cs := rfl
@[simp] theorem State.clearIntake_cb (s : State) : (s.clearIntake).cb = s.cb := rfl
@[simp] theorem State.clearIntake_ti (s : State) : (s.clearIntake).ti = s.ti := rfl
@[simp] theorem State.clearIntake_tg (s : State) : (s.clearIntake).tg = s.tg := rfl
@[simp] theorem State.clearIntake_ol (s : State) : (s.clearIntake).ol = s.ol := rfl
@[simp] theorem State.clearIntake_nu (s : State) : (s.clearIntake).nu = s.nu := rfl
@[simp] theorem State.clearIntake_li (s : State) : (s.clearIntake).li = s.li := rfl
@[simp] theorem State.clearIntake_pins (s : State) : (s.clearIntake).pins = s.pins := rfl
@[simp] theorem State.clearIntake_pending (s : State) : (s.clearIntake).pending = s.pending := rfl
@[simp] theorem State.clearIntake_inHand (s : State) : (s.clearIntake).inHand = { s.inHand with intake := none } := rfl
@[simp] theorem State.queueDown_rh (s : State) (f : Frame) : (s.queueDown f).rh = s.rh := rfl
@[simp] theorem State.queueDown_ge (s : State) (f : Frame) : (s.queueDown f).ge = s.ge := rfl
@[simp] theorem State.queueDown_te (s : State) (f : Frame) : (s.queueDown f).te = s.te := rfl
@[simp] theorem State.queueDown_ms (s : State) (f : Frame) : (s.queueDown f).ms = s.ms := rfl
@[simp] theorem State.queueDown_sa (s : State) (f : Frame) : (s.queueDown f).sa = s.sa := rfl
@[simp] theorem State.queueDown_cs (s : State) (f : Frame) : (s.queueDown f).cs = s.cs := rfl
@[simp] theorem State.queueDown_cb (s : State) (f : Frame) : (s.queueDown f).cb = s.cb := rfl
@[simp] theorem State.queueDown_ti (s : State) (f : Frame) : (s.queueDown f).ti = s.ti := rfl
@[simp] theorem State.queueDown_tg (s : State) (f : Frame) : (s.queueDown f).tg = s.tg := rfl
@[simp] theorem State.queueDown_ol (s : State) (f : Frame) : (s.queueDown f).ol = s.ol := rfl
@[simp] theorem State.queueDown_nu (s : State) (f : Frame) : (s.queueDown f).nu = s.nu := rfl
@[simp] theorem State.queueDown_pins (s : State) (f : Frame) : (s.queueDown f).pins = s.pins := rfl
@[simp] theorem State.queueDown_inHand (s : State) (f : Frame) : (s.queueDown f).inHand = s.inHand := rfl
@[simp] theorem State.queueDown_pending (s : State) (f : Frame) : (s.queueDown f).pending = s.pending := rfl
@[simp] theorem State.addHeat_rh (s : State) (m : Module) (n : Nat) : (s.addHeat m n).rh = s.rh := rfl
@[simp] theorem State.addHeat_ge (s : State) (m : Module) (n : Nat) : (s.addHeat m n).ge = s.ge := rfl
@[simp] theorem State.addHeat_ms (s : State) (m : Module) (n : Nat) : (s.addHeat m n).ms = s.ms := rfl
@[simp] theorem State.addHeat_sa (s : State) (m : Module) (n : Nat) : (s.addHeat m n).sa = s.sa := rfl
@[simp] theorem State.addHeat_cs (s : State) (m : Module) (n : Nat) : (s.addHeat m n).cs = s.cs := rfl
@[simp] theorem State.addHeat_cb (s : State) (m : Module) (n : Nat) : (s.addHeat m n).cb = s.cb := rfl
@[simp] theorem State.addHeat_ti (s : State) (m : Module) (n : Nat) : (s.addHeat m n).ti = s.ti := rfl
@[simp] theorem State.addHeat_tg (s : State) (m : Module) (n : Nat) : (s.addHeat m n).tg = s.tg := rfl
@[simp] theorem State.addHeat_ol (s : State) (m : Module) (n : Nat) : (s.addHeat m n).ol = s.ol := rfl
@[simp] theorem State.addHeat_nu (s : State) (m : Module) (n : Nat) : (s.addHeat m n).nu = s.nu := rfl
@[simp] theorem State.addHeat_li (s : State) (m : Module) (n : Nat) : (s.addHeat m n).li = s.li := rfl
@[simp] theorem State.addHeat_pins (s : State) (m : Module) (n : Nat) : (s.addHeat m n).pins = s.pins := rfl
@[simp] theorem State.addHeat_inHand (s : State) (m : Module) (n : Nat) : (s.addHeat m n).inHand = s.inHand := rfl
@[simp] theorem State.addHeat_pending (s : State) (m : Module) (n : Nat) : (s.addHeat m n).pending = s.pending := rfl
@[simp] theorem State.setRx_rh (s : State) (st : Stream) (r : RxState) : (s.setRx st r).rh = s.rh := by cases st <;> rfl
@[simp] theorem State.setRx_ge (s : State) (st : Stream) (r : RxState) : (s.setRx st r).ge = s.ge := by cases st <;> rfl
@[simp] theorem State.setRx_te (s : State) (st : Stream) (r : RxState) : (s.setRx st r).te = s.te := by cases st <;> rfl
@[simp] theorem State.setRx_ms (s : State) (st : Stream) (r : RxState) : (s.setRx st r).ms = s.ms := by cases st <;> rfl
@[simp] theorem State.setRx_sa (s : State) (st : Stream) (r : RxState) : (s.setRx st r).sa = s.sa := by cases st <;> rfl
@[simp] theorem State.setRx_cs (s : State) (st : Stream) (r : RxState) : (s.setRx st r).cs = s.cs := by cases st <;> rfl
@[simp] theorem State.setRx_cb (s : State) (st : Stream) (r : RxState) : (s.setRx st r).cb = s.cb := by cases st <;> rfl
@[simp] theorem State.setRx_ti (s : State) (st : Stream) (r : RxState) : (s.setRx st r).ti = s.ti := by cases st <;> rfl
@[simp] theorem State.setRx_tg (s : State) (st : Stream) (r : RxState) : (s.setRx st r).tg = s.tg := by cases st <;> rfl
@[simp] theorem State.setRx_ol (s : State) (st : Stream) (r : RxState) : (s.setRx st r).ol = s.ol := by cases st <;> rfl
@[simp] theorem State.setRx_nu (s : State) (st : Stream) (r : RxState) : (s.setRx st r).nu = s.nu := by cases st <;> rfl
@[simp] theorem State.setRx_pins (s : State) (st : Stream) (r : RxState) : (s.setRx st r).pins = s.pins := by cases st <;> rfl
@[simp] theorem State.setRx_inHand (s : State) (st : Stream) (r : RxState) : (s.setRx st r).inHand = s.inHand := by cases st <;> rfl
@[simp] theorem State.setRx_pending (s : State) (st : Stream) (r : RxState) : (s.setRx st r).pending = s.pending := by cases st <;> rfl
@[simp] theorem State.queueGov_li_rxDown (s : State) (f : GovFrame) : (s.queueGov f).li.rxDown = s.li.rxDown := rfl
@[simp] theorem State.queueGov_li_rxUp (s : State) (f : GovFrame) : (s.queueGov f).li.rxUp = s.li.rxUp := rfl
@[simp] theorem State.queueGov_li_downPath (s : State) (f : GovFrame) : (s.queueGov f).li.downPath = s.li.downPath := rfl
@[simp] theorem State.queueGov_li_transit (s : State) (f : GovFrame) : (s.queueGov f).li.transit = s.li.transit := rfl
@[simp] theorem State.queueGov_li_outUp (s : State) (f : GovFrame) : (s.queueGov f).li.outUp = s.li.outUp := rfl
@[simp] theorem State.queueGov_li_wordUp (s : State) (f : GovFrame) : (s.queueGov f).li.wordUp = s.li.wordUp := rfl
@[simp] theorem State.queueGov_li_outDown (s : State) (f : GovFrame) : (s.queueGov f).li.outDown = s.li.outDown := rfl
@[simp] theorem State.queueGov_li_wordDown (s : State) (f : GovFrame) : (s.queueGov f).li.wordDown = s.li.wordDown := rfl
@[simp] theorem State.queueGov_li_lastServed (s : State) (f : GovFrame) : (s.queueGov f).li.lastServed = s.li.lastServed := rfl
@[simp] theorem State.mergeNotice_li_rxDown (s : State) (d : ClassSet) : (s.mergeNotice d).li.rxDown = s.li.rxDown := rfl
@[simp] theorem State.mergeNotice_li_rxUp (s : State) (d : ClassSet) : (s.mergeNotice d).li.rxUp = s.li.rxUp := rfl
@[simp] theorem State.mergeNotice_li_downPath (s : State) (d : ClassSet) : (s.mergeNotice d).li.downPath = s.li.downPath := rfl
@[simp] theorem State.mergeNotice_li_transit (s : State) (d : ClassSet) : (s.mergeNotice d).li.transit = s.li.transit := rfl
@[simp] theorem State.mergeNotice_li_outUp (s : State) (d : ClassSet) : (s.mergeNotice d).li.outUp = s.li.outUp := rfl
@[simp] theorem State.mergeNotice_li_wordUp (s : State) (d : ClassSet) : (s.mergeNotice d).li.wordUp = s.li.wordUp := rfl
@[simp] theorem State.mergeNotice_li_outDown (s : State) (d : ClassSet) : (s.mergeNotice d).li.outDown = s.li.outDown := rfl
@[simp] theorem State.mergeNotice_li_wordDown (s : State) (d : ClassSet) : (s.mergeNotice d).li.wordDown = s.li.wordDown := rfl
@[simp] theorem State.mergeNotice_li_lastServed (s : State) (d : ClassSet) : (s.mergeNotice d).li.lastServed = s.li.lastServed := rfl
@[simp] theorem State.queueDown_li_rxDown (s : State) (f : Frame) : (s.queueDown f).li.rxDown = s.li.rxDown := rfl
@[simp] theorem State.queueDown_li_rxUp (s : State) (f : Frame) : (s.queueDown f).li.rxUp = s.li.rxUp := rfl
@[simp] theorem State.queueDown_li_transit (s : State) (f : Frame) : (s.queueDown f).li.transit = s.li.transit := rfl
@[simp] theorem State.queueDown_li_insert (s : State) (f : Frame) : (s.queueDown f).li.insert = s.li.insert := rfl
@[simp] theorem State.queueDown_li_outUp (s : State) (f : Frame) : (s.queueDown f).li.outUp = s.li.outUp := rfl
@[simp] theorem State.queueDown_li_wordUp (s : State) (f : Frame) : (s.queueDown f).li.wordUp = s.li.wordUp := rfl
@[simp] theorem State.queueDown_li_outDown (s : State) (f : Frame) : (s.queueDown f).li.outDown = s.li.outDown := rfl
@[simp] theorem State.queueDown_li_wordDown (s : State) (f : Frame) : (s.queueDown f).li.wordDown = s.li.wordDown := rfl
@[simp] theorem State.queueDown_li_lastServed (s : State) (f : Frame) : (s.queueDown f).li.lastServed = s.li.lastServed := rfl

/-! ### Reading back what was stored -/

theorem get_eq_getElem {α : Type} {n : Nat} (v : Vector α n) (i : Fin n) : v.get i = v[i.val] := rfl

@[simp] theorem State.setParam_param_self (s : State) (p : ParamId) (v : Int) : (s.setParam p v).param p = v := by
  simp [State.setParam, State.param, get_eq_getElem]

theorem ParamId.eq_of_index_eq {p q : ParamId} (h : p.index = q.index) : p = q := by
  cases p <;> cases q <;> first | rfl | (exact absurd h (by decide))

theorem State.setParam_param_of_ne (s : State) (p q : ParamId) (v : Int) (h : q ≠ p) : (s.setParam p v).param q = s.param q := by
  have h' : p.index.val ≠ q.index.val := fun e => h (ParamId.eq_of_index_eq (Fin.ext e)).symm
  simp [State.setParam, State.param, get_eq_getElem, Vector.getElem_set_ne _ _ h']

@[simp] theorem State.setObs_obsOf_self (s : State) (k : ObsKind) (ob : Observation) : (s.setObs k ob).obsOf k = ob := by
  simp [State.setObs, State.obsOf, get_eq_getElem]

@[simp] theorem State.setChain_ms_self (s : State) (c : Chain) (r : ChainRecord) : (s.setChain c r).ms.get c = r := by
  simp [State.setChain, get_eq_getElem]

theorem State.setChain_ms_of_ne (s : State) (c d : Chain) (r : ChainRecord) (h : d ≠ c) :
    (s.setChain c r).ms.get d = s.ms.get d := by
  have h' : c.val ≠ d.val := fun e => h (Fin.ext e).symm
  simp [State.setChain, get_eq_getElem, Vector.getElem_set_ne _ _ h']

@[simp] theorem State.setSlot_slots_self (s : State) (n : Fin 16) (c : CurveSlot) : (s.setSlot n c).cs.slots.get n = c := by
  simp [State.setSlot, get_eq_getElem]

theorem State.setSlot_slots_of_ne (s : State) (n m : Fin 16) (c : CurveSlot) (h : m ≠ n) :
    (s.setSlot n c).cs.slots.get m = s.cs.slots.get m := by
  have h' : n.val ≠ m.val := fun e => h (Fin.ext e).symm
  simp [State.setSlot, get_eq_getElem, Vector.getElem_set_ne _ _ h']

@[simp] theorem ThermalEstimator.get_set_self (t : ThermalEstimator) (m : Module) (r : ModuleRecord) : (t.set m r).get m = r := by
  cases m <;> rfl

theorem ThermalEstimator.get_set_of_ne (t : ThermalEstimator) (m n : Module) (r : ModuleRecord) (h : n ≠ m) :
    (t.set m r).get n = t.get n := by
  cases m <;> cases n <;> first | rfl | (exact absurd rfl h)

end Sys2Proof.Machine
end

