-- ==== Sys2Proof/Laws/Ops.lean ====
section
/-! SUPPORT. What each shared operation leaves alone, field by field, and what it can do to the fields it writes. -/

namespace Sys2Proof.Machine

/-! ### noticeTest -/

@[simp] theorem State.noticeTest_rh (s : State) : (s.noticeTest).rh = s.rh := by
  unfold State.noticeTest; repeat' split
  all_goals simp
@[simp] theorem State.noticeTest_ge (s : State) : (s.noticeTest).ge = s.ge := by
  unfold State.noticeTest; repeat' split
  all_goals simp
@[simp] theorem State.noticeTest_te (s : State) : (s.noticeTest).te = s.te := by
  unfold State.noticeTest; repeat' split
  all_goals simp
@[simp] theorem State.noticeTest_ms (s : State) : (s.noticeTest).ms = s.ms := by
  unfold State.noticeTest; repeat' split
  all_goals simp
@[simp] theorem State.noticeTest_sa (s : State) : (s.noticeTest).sa = s.sa := by
  unfold State.noticeTest; repeat' split
  all_goals simp
@[simp] theorem State.noticeTest_cs (s : State) : (s.noticeTest).cs = s.cs := by
  unfold State.noticeTest; repeat' split
  all_goals simp
@[simp] theorem State.noticeTest_cb (s : State) : (s.noticeTest).cb = s.cb := by
  unfold State.noticeTest; repeat' split
  all_goals simp
@[simp] theorem State.noticeTest_ti (s : State) : (s.noticeTest).ti = s.ti := by
  unfold State.noticeTest; repeat' split
  all_goals simp
@[simp] theorem State.noticeTest_tg (s : State) : (s.noticeTest).tg = s.tg := by
  unfold State.noticeTest; repeat' split
  all_goals simp
@[simp] theorem State.noticeTest_ol (s : State) : (s.noticeTest).ol = s.ol := by
  unfold State.noticeTest; repeat' split
  all_goals simp
@[simp] theorem State.noticeTest_pins (s : State) : (s.noticeTest).pins = s.pins := by
  unfold State.noticeTest; repeat' split
  all_goals simp
@[simp] theorem State.noticeTest_inHand (s : State) : (s.noticeTest).inHand = s.inHand := by
  unfold State.noticeTest; repeat' split
  all_goals simp
@[simp] theorem State.noticeTest_pending (s : State) : (s.noticeTest).pending = s.pending := by
  unfold State.noticeTest; repeat' split
  all_goals simp
@[simp] theorem State.noticeTest_li_rxDown (s : State) : (s.noticeTest).li.rxDown = s.li.rxDown := by
  unfold State.noticeTest; repeat' split
  all_goals simp
@[simp] theorem State.noticeTest_li_rxUp (s : State) : (s.noticeTest).li.rxUp = s.li.rxUp := by
  unfold State.noticeTest; repeat' split
  all_goals simp
@[simp] theorem State.noticeTest_li_downPath (s : State) : (s.noticeTest).li.downPath = s.li.downPath := by
  unfold State.noticeTest; repeat' split
  all_goals simp
@[simp] theorem State.noticeTest_li_transit (s : State) : (s.noticeTest).li.transit = s.li.transit := by
  unfold State.noticeTest; repeat' split
  all_goals simp
@[simp] theorem State.noticeTest_li_outUp (s : State) : (s.noticeTest).li.outUp = s.li.outUp := by
  unfold State.noticeTest; repeat' split
  all_goals simp
@[simp] theorem State.noticeTest_li_wordUp (s : State) : (s.noticeTest).li.wordUp = s.li.wordUp := by
  unfold State.noticeTest; repeat' split
  all_goals simp
@[simp] theorem State.noticeTest_li_outDown (s : State) : (s.noticeTest).li.outDown = s.li.outDown := by
  unfold State.noticeTest; repeat' split
  all_goals simp
@[simp] theorem State.noticeTest_li_wordDown (s : State) : (s.noticeTest).li.wordDown = s.li.wordDown := by
  unfold State.noticeTest; repeat' split
  all_goals simp
@[simp] theorem State.noticeTest_li_lastServed (s : State) : (s.noticeTest).li.lastServed = s.li.lastServed := by
  unfold State.noticeTest; repeat' split
  all_goals simp

/-! ### noticeCall -/

@[simp] theorem State.noticeCall_rh (s : State) : (s.noticeCall).rh = s.rh := by
  unfold State.noticeCall; repeat' split
  all_goals simp
@[simp] theorem State.noticeCall_ge (s : State) : (s.noticeCall).ge = s.ge := by
  unfold State.noticeCall; repeat' split
  all_goals simp
@[simp] theorem State.noticeCall_te (s : State) : (s.noticeCall).te = s.te := by
  unfold State.noticeCall; repeat' split
  all_goals simp
@[simp] theorem State.noticeCall_ms (s : State) : (s.noticeCall).ms = s.ms := by
  unfold State.noticeCall; repeat' split
  all_goals simp
@[simp] theorem State.noticeCall_sa (s : State) : (s.noticeCall).sa = s.sa := by
  unfold State.noticeCall; repeat' split
  all_goals simp
@[simp] theorem State.noticeCall_cs (s : State) : (s.noticeCall).cs = s.cs := by
  unfold State.noticeCall; repeat' split
  all_goals simp
@[simp] theorem State.noticeCall_cb (s : State) : (s.noticeCall).cb = s.cb := by
  unfold State.noticeCall; repeat' split
  all_goals simp
@[simp] theorem State.noticeCall_ti (s : State) : (s.noticeCall).ti = s.ti := by
  unfold State.noticeCall; repeat' split
  all_goals simp
@[simp] theorem State.noticeCall_tg (s : State) : (s.noticeCall).tg = s.tg := by
  unfold State.noticeCall; repeat' split
  all_goals simp
@[simp] theorem State.noticeCall_ol (s : State) : (s.noticeCall).ol = s.ol := by
  unfold State.noticeCall; repeat' split
  all_goals simp
@[simp] theorem State.noticeCall_pins (s : State) : (s.noticeCall).pins = s.pins := by
  unfold State.noticeCall; repeat' split
  all_goals simp
@[simp] theorem State.noticeCall_inHand (s : State) : (s.noticeCall).inHand = s.inHand := by
  unfold State.noticeCall; repeat' split
  all_goals simp
@[simp] theorem State.noticeCall_pending (s : State) : (s.noticeCall).pending = s.pending := by
  unfold State.noticeCall; repeat' split
  all_goals simp
@[simp] theorem State.noticeCall_li_rxDown (s : State) : (s.noticeCall).li.rxDown = s.li.rxDown := by
  unfold State.noticeCall; repeat' split
  all_goals simp
@[simp] theorem State.noticeCall_li_rxUp (s : State) : (s.noticeCall).li.rxUp = s.li.rxUp := by
  unfold State.noticeCall; repeat' split
  all_goals simp
@[simp] theorem State.noticeCall_li_downPath (s : State) : (s.noticeCall).li.downPath = s.li.downPath := by
  unfold State.noticeCall; repeat' split
  all_goals simp
@[simp] theorem State.noticeCall_li_transit (s : State) : (s.noticeCall).li.transit = s.li.transit := by
  unfold State.noticeCall; repeat' split
  all_goals simp
@[simp] theorem State.noticeCall_li_outUp (s : State) : (s.noticeCall).li.outUp = s.li.outUp := by
  unfold State.noticeCall; repeat' split
  all_goals simp
@[simp] theorem State.noticeCall_li_wordUp (s : State) : (s.noticeCall).li.wordUp = s.li.wordUp := by
  unfold State.noticeCall; repeat' split
  all_goals simp
@[simp] theorem State.noticeCall_li_outDown (s : State) : (s.noticeCall).li.outDown = s.li.outDown := by
  unfold State.noticeCall; repeat' split
  all_goals simp
@[simp] theorem State.noticeCall_li_wordDown (s : State) : (s.noticeCall).li.wordDown = s.li.wordDown := by
  unfold State.noticeCall; repeat' split
  all_goals simp
@[simp] theorem State.noticeCall_li_lastServed (s : State) : (s.noticeCall).li.lastServed = s.li.lastServed := by
  unfold State.noticeCall; repeat' split
  all_goals simp

/-! ### raise -/

@[simp] theorem State.raise_rh (s : State) (c : NoticeClass) : (s.raise c).rh = s.rh := by
  unfold State.raise; repeat' split
  all_goals simp
@[simp] theorem State.raise_ge (s : State) (c : NoticeClass) : (s.raise c).ge = s.ge := by
  unfold State.raise; repeat' split
  all_goals simp
@[simp] theorem State.raise_te (s : State) (c : NoticeClass) : (s.raise c).te = s.te := by
  unfold State.raise; repeat' split
  all_goals simp
@[simp] theorem State.raise_ms (s : State) (c : NoticeClass) : (s.raise c).ms = s.ms := by
  unfold State.raise; repeat' split
  all_goals simp
@[simp] theorem State.raise_sa (s : State) (c : NoticeClass) : (s.raise c).sa = s.sa := by
  unfold State.raise; repeat' split
  all_goals simp
@[simp] theorem State.raise_cs (s : State) (c : NoticeClass) : (s.raise c).cs = s.cs := by
  unfold State.raise; repeat' split
  all_goals simp
@[simp] theorem State.raise_cb (s : State) (c : NoticeClass) : (s.raise c).cb = s.cb := by
  unfold State.raise; repeat' split
  all_goals simp
@[simp] theorem State.raise_ti (s : State) (c : NoticeClass) : (s.raise c).ti = s.ti := by
  unfold State.raise; repeat' split
  all_goals simp
@[simp] theorem State.raise_tg (s : State) (c : NoticeClass) : (s.raise c).tg = s.tg := by
  unfold State.raise; repeat' split
  all_goals simp
@[simp] theorem State.raise_ol (s : State) (c : NoticeClass) : (s.raise c).ol = s.ol := by
  unfold State.raise; repeat' split
  all_goals simp
@[simp] theorem State.raise_pins (s : State) (c : NoticeClass) : (s.raise c).pins = s.pins := by
  unfold State.raise; repeat' split
  all_goals simp
@[simp] theorem State.raise_inHand (s : State) (c : NoticeClass) : (s.raise c).inHand = s.inHand := by
  unfold State.raise; repeat' split
  all_goals simp
@[simp] theorem State.raise_pending (s : State) (c : NoticeClass) : (s.raise c).pending = s.pending := by
  unfold State.raise; repeat' split
  all_goals simp
@[simp] theorem State.raise_li_rxDown (s : State) (c : NoticeClass) : (s.raise c).li.rxDown = s.li.rxDown := by
  unfold State.raise; repeat' split
  all_goals simp
@[simp] theorem State.raise_li_rxUp (s : State) (c : NoticeClass) : (s.raise c).li.rxUp = s.li.rxUp := by
  unfold State.raise; repeat' split
  all_goals simp
@[simp] theorem State.raise_li_downPath (s : State) (c : NoticeClass) : (s.raise c).li.downPath = s.li.downPath := by
  unfold State.raise; repeat' split
  all_goals simp
@[simp] theorem State.raise_li_transit (s : State) (c : NoticeClass) : (s.raise c).li.transit = s.li.transit := by
  unfold State.raise; repeat' split
  all_goals simp
@[simp] theorem State.raise_li_outUp (s : State) (c : NoticeClass) : (s.raise c).li.outUp = s.li.outUp := by
  unfold State.raise; repeat' split
  all_goals simp
@[simp] theorem State.raise_li_wordUp (s : State) (c : NoticeClass) : (s.raise c).li.wordUp = s.li.wordUp := by
  unfold State.raise; repeat' split
  all_goals simp
@[simp] theorem State.raise_li_outDown (s : State) (c : NoticeClass) : (s.raise c).li.outDown = s.li.outDown := by
  unfold State.raise; repeat' split
  all_goals simp
@[simp] theorem State.raise_li_wordDown (s : State) (c : NoticeClass) : (s.raise c).li.wordDown = s.li.wordDown := by
  unfold State.raise; repeat' split
  all_goals simp
@[simp] theorem State.raise_li_lastServed (s : State) (c : NoticeClass) : (s.raise c).li.lastServed = s.li.lastServed := by
  unfold State.raise; repeat' split
  all_goals simp

/-! ### noticeDeparture -/

@[simp] theorem State.noticeDeparture_rh (s : State) : (s.noticeDeparture).rh = s.rh := by
  unfold State.noticeDeparture; repeat' split
  all_goals simp
@[simp] theorem State.noticeDeparture_ge (s : State) : (s.noticeDeparture).ge = s.ge := by
  unfold State.noticeDeparture; repeat' split
  all_goals simp
@[simp] theorem State.noticeDeparture_te (s : State) : (s.noticeDeparture).te = s.te := by
  unfold State.noticeDeparture; repeat' split
  all_goals simp
@[simp] theorem State.noticeDeparture_ms (s : State) : (s.noticeDeparture).ms = s.ms := by
  unfold State.noticeDeparture; repeat' split
  all_goals simp
@[simp] theorem State.noticeDeparture_sa (s : State) : (s.noticeDeparture).sa = s.sa := by
  unfold State.noticeDeparture; repeat' split
  all_goals simp
@[simp] theorem State.noticeDeparture_cs (s : State) : (s.noticeDeparture).cs = s.cs := by
  unfold State.noticeDeparture; repeat' split
  all_goals simp
@[simp] theorem State.noticeDeparture_cb (s : State) : (s.noticeDeparture).cb = s.cb := by
  unfold State.noticeDeparture; repeat' split
  all_goals simp
@[simp] theorem State.noticeDeparture_ti (s : State) : (s.noticeDeparture).ti = s.ti := by
  unfold State.noticeDeparture; repeat' split
  all_goals simp
@[simp] theorem State.noticeDeparture_tg (s : State) : (s.noticeDeparture).tg = s.tg := by
  unfold State.noticeDeparture; repeat' split
  all_goals simp
@[simp] theorem State.noticeDeparture_ol (s : State) : (s.noticeDeparture).ol = s.ol := by
  unfold State.noticeDeparture; repeat' split
  all_goals simp
@[simp] theorem State.noticeDeparture_pins (s : State) : (s.noticeDeparture).pins = s.pins := by
  unfold State.noticeDeparture; repeat' split
  all_goals simp
@[simp] theorem State.noticeDeparture_inHand (s : State) : (s.noticeDeparture).inHand = s.inHand := by
  unfold State.noticeDeparture; repeat' split
  all_goals simp
@[simp] theorem State.noticeDeparture_pending (s : State) : (s.noticeDeparture).pending = s.pending := by
  unfold State.noticeDeparture; repeat' split
  all_goals simp
@[simp] theorem State.noticeDeparture_li_rxDown (s : State) : (s.noticeDeparture).li.rxDown = s.li.rxDown := by
  unfold State.noticeDeparture; repeat' split
  all_goals simp
@[simp] theorem State.noticeDeparture_li_rxUp (s : State) : (s.noticeDeparture).li.rxUp = s.li.rxUp := by
  unfold State.noticeDeparture; repeat' split
  all_goals simp
@[simp] theorem State.noticeDeparture_li_downPath (s : State) : (s.noticeDeparture).li.downPath = s.li.downPath := by
  unfold State.noticeDeparture; repeat' split
  all_goals simp
@[simp] theorem State.noticeDeparture_li_transit (s : State) : (s.noticeDeparture).li.transit = s.li.transit := by
  unfold State.noticeDeparture; repeat' split
  all_goals simp
@[simp] theorem State.noticeDeparture_li_outUp (s : State) : (s.noticeDeparture).li.outUp = s.li.outUp := by
  unfold State.noticeDeparture; repeat' split
  all_goals simp
@[simp] theorem State.noticeDeparture_li_wordUp (s : State) : (s.noticeDeparture).li.wordUp = s.li.wordUp := by
  unfold State.noticeDeparture; repeat' split
  all_goals simp
@[simp] theorem State.noticeDeparture_li_outDown (s : State) : (s.noticeDeparture).li.outDown = s.li.outDown := by
  unfold State.noticeDeparture; repeat' split
  all_goals simp
@[simp] theorem State.noticeDeparture_li_wordDown (s : State) : (s.noticeDeparture).li.wordDown = s.li.wordDown := by
  unfold State.noticeDeparture; repeat' split
  all_goals simp
@[simp] theorem State.noticeDeparture_li_lastServed (s : State) : (s.noticeDeparture).li.lastServed = s.li.lastServed := by
  unfold State.noticeDeparture; repeat' split
  all_goals simp

/-! ### record -/

@[simp] theorem State.record_rh (s : State) (r : Record) : (s.record r).rh = s.rh := by
  simp only [State.record]; repeat' split
  all_goals simp
@[simp] theorem State.record_ge (s : State) (r : Record) : (s.record r).ge = s.ge := by
  simp only [State.record]; repeat' split
  all_goals simp
@[simp] theorem State.record_te (s : State) (r : Record) : (s.record r).te = s.te := by
  simp only [State.record]; repeat' split
  all_goals simp
@[simp] theorem State.record_ms (s : State) (r : Record) : (s.record r).ms = s.ms := by
  simp only [State.record]; repeat' split
  all_goals simp
@[simp] theorem State.record_sa (s : State) (r : Record) : (s.record r).sa = s.sa := by
  simp only [State.record]; repeat' split
  all_goals simp
@[simp] theorem State.record_cs (s : State) (r : Record) : (s.record r).cs = s.cs := by
  simp only [State.record]; repeat' split
  all_goals simp
@[simp] theorem State.record_cb (s : State) (r : Record) : (s.record r).cb = s.cb := by
  simp only [State.record]; repeat' split
  all_goals simp
@[simp] theorem State.record_ti (s : State) (r : Record) : (s.record r).ti = s.ti := by
  simp only [State.record]; repeat' split
  all_goals simp
@[simp] theorem State.record_tg (s : State) (r : Record) : (s.record r).tg = s.tg := by
  simp only [State.record]; repeat' split
  all_goals simp
@[simp] theorem State.record_pins (s : State) (r : Record) : (s.record r).pins = s.pins := by
  simp only [State.record]; repeat' split
  all_goals simp
@[simp] theorem State.record_inHand (s : State) (r : Record) : (s.record r).inHand = s.inHand := by
  simp only [State.record]; repeat' split
  all_goals simp
@[simp] theorem State.record_pending (s : State) (r : Record) : (s.record r).pending = s.pending := by
  simp only [State.record]; repeat' split
  all_goals simp
@[simp] theorem State.record_li_rxDown (s : State) (r : Record) : (s.record r).li.rxDown = s.li.rxDown := by
  simp only [State.record]; repeat' split
  all_goals simp
@[simp] theorem State.record_li_rxUp (s : State) (r : Record) : (s.record r).li.rxUp = s.li.rxUp := by
  simp only [State.record]; repeat' split
  all_goals simp
@[simp] theorem State.record_li_downPath (s : State) (r : Record) : (s.record r).li.downPath = s.li.downPath := by
  simp only [State.record]; repeat' split
  all_goals simp
@[simp] theorem State.record_li_transit (s : State) (r : Record) : (s.record r).li.transit = s.li.transit := by
  simp only [State.record]; repeat' split
  all_goals simp
@[simp] theorem State.record_li_outUp (s : State) (r : Record) : (s.record r).li.outUp = s.li.outUp := by
  simp only [State.record]; repeat' split
  all_goals simp
@[simp] theorem State.record_li_wordUp (s : State) (r : Record) : (s.record r).li.wordUp = s.li.wordUp := by
  simp only [State.record]; repeat' split
  all_goals simp
@[simp] theorem State.record_li_outDown (s : State) (r : Record) : (s.record r).li.outDown = s.li.outDown := by
  simp only [State.record]; repeat' split
  all_goals simp
@[simp] theorem State.record_li_wordDown (s : State) (r : Record) : (s.record r).li.wordDown = s.li.wordDown := by
  simp only [State.record]; repeat' split
  all_goals simp
@[simp] theorem State.record_li_lastServed (s : State) (r : Record) : (s.record r).li.lastServed = s.li.lastServed := by
  simp only [State.record]; repeat' split
  all_goals simp

/-! ### linkFault -/

@[simp] theorem State.linkFault_rh (s : State) (e : LinkError) : (s.linkFault e).rh = s.rh := by
  simp only [State.linkFault]
  simp
@[simp] theorem State.linkFault_ge (s : State) (e : LinkError) : (s.linkFault e).ge = s.ge := by
  simp only [State.linkFault]
  simp
@[simp] theorem State.linkFault_te (s : State) (e : LinkError) : (s.linkFault e).te = s.te := by
  simp only [State.linkFault]
  simp
@[simp] theorem State.linkFault_ms (s : State) (e : LinkError) : (s.linkFault e).ms = s.ms := by
  simp only [State.linkFault]
  simp
@[simp] theorem State.linkFault_sa (s : State) (e : LinkError) : (s.linkFault e).sa = s.sa := by
  simp only [State.linkFault]
  simp
@[simp] theorem State.linkFault_cs (s : State) (e : LinkError) : (s.linkFault e).cs = s.cs := by
  simp only [State.linkFault]
  simp
@[simp] theorem State.linkFault_cb (s : State) (e : LinkError) : (s.linkFault e).cb = s.cb := by
  simp only [State.linkFault]
  simp
@[simp] theorem State.linkFault_ti (s : State) (e : LinkError) : (s.linkFault e).ti = s.ti := by
  simp only [State.linkFault]
  simp
@[simp] theorem State.linkFault_tg (s : State) (e : LinkError) : (s.linkFault e).tg = s.tg := by
  simp only [State.linkFault]
  simp
@[simp] theorem State.linkFault_pins (s : State) (e : LinkError) : (s.linkFault e).pins = s.pins := by
  simp only [State.linkFault]
  simp
@[simp] theorem State.linkFault_inHand (s : State) (e : LinkError) : (s.linkFault e).inHand = s.inHand := by
  simp only [State.linkFault]
  simp
@[simp] theorem State.linkFault_pending (s : State) (e : LinkError) : (s.linkFault e).pending = s.pending := by
  simp only [State.linkFault]
  simp
@[simp] theorem State.linkFault_li_rxDown (s : State) (e : LinkError) : (s.linkFault e).li.rxDown = s.li.rxDown := by
  simp only [State.linkFault]
  simp
@[simp] theorem State.linkFault_li_rxUp (s : State) (e : LinkError) : (s.linkFault e).li.rxUp = s.li.rxUp := by
  simp only [State.linkFault]
  simp
@[simp] theorem State.linkFault_li_downPath (s : State) (e : LinkError) : (s.linkFault e).li.downPath = s.li.downPath := by
  simp only [State.linkFault]
  simp
@[simp] theorem State.linkFault_li_transit (s : State) (e : LinkError) : (s.linkFault e).li.transit = s.li.transit := by
  simp only [State.linkFault]
  simp
@[simp] theorem State.linkFault_li_outUp (s : State) (e : LinkError) : (s.linkFault e).li.outUp = s.li.outUp := by
  simp only [State.linkFault]
  simp
@[simp] theorem State.linkFault_li_wordUp (s : State) (e : LinkError) : (s.linkFault e).li.wordUp = s.li.wordUp := by
  simp only [State.linkFault]
  simp
@[simp] theorem State.linkFault_li_outDown (s : State) (e : LinkError) : (s.linkFault e).li.outDown = s.li.outDown := by
  simp only [State.linkFault]
  simp
@[simp] theorem State.linkFault_li_wordDown (s : State) (e : LinkError) : (s.linkFault e).li.wordDown = s.li.wordDown := by
  simp only [State.linkFault]
  simp
@[simp] theorem State.linkFault_li_lastServed (s : State) (e : LinkError) : (s.linkFault e).li.lastServed = s.li.lastServed := by
  simp only [State.linkFault]
  simp

/-! ### offerGrant -/

@[simp] theorem State.offerGrant_rh (s : State) (r : Record) (forced : Bool) : (s.offerGrant r forced).rh = s.rh := by
  simp only [State.offerGrant]; repeat' split
  all_goals simp
@[simp] theorem State.offerGrant_ge (s : State) (r : Record) (forced : Bool) : (s.offerGrant r forced).ge = s.ge := by
  simp only [State.offerGrant]; repeat' split
  all_goals simp
@[simp] theorem State.offerGrant_te (s : State) (r : Record) (forced : Bool) : (s.offerGrant r forced).te = s.te := by
  simp only [State.offerGrant]; repeat' split
  all_goals simp
@[simp] theorem State.offerGrant_ms (s : State) (r : Record) (forced : Bool) : (s.offerGrant r forced).ms = s.ms := by
  simp only [State.offerGrant]; repeat' split
  all_goals simp
@[simp] theorem State.offerGrant_sa (s : State) (r : Record) (forced : Bool) : (s.offerGrant r forced).sa = s.sa := by
  simp only [State.offerGrant]; repeat' split
  all_goals simp
@[simp] theorem State.offerGrant_cs (s : State) (r : Record) (forced : Bool) : (s.offerGrant r forced).cs = s.cs := by
  simp only [State.offerGrant]; repeat' split
  all_goals simp
@[simp] theorem State.offerGrant_cb (s : State) (r : Record) (forced : Bool) : (s.offerGrant r forced).cb = s.cb := by
  simp only [State.offerGrant]; repeat' split
  all_goals simp
@[simp] theorem State.offerGrant_ti (s : State) (r : Record) (forced : Bool) : (s.offerGrant r forced).ti = s.ti := by
  simp only [State.offerGrant]; repeat' split
  all_goals simp
@[simp] theorem State.offerGrant_tg (s : State) (r : Record) (forced : Bool) : (s.offerGrant r forced).tg = s.tg := by
  simp only [State.offerGrant]; repeat' split
  all_goals simp
@[simp] theorem State.offerGrant_pins (s : State) (r : Record) (forced : Bool) : (s.offerGrant r forced).pins = s.pins := by
  simp only [State.offerGrant]; repeat' split
  all_goals simp
@[simp] theorem State.offerGrant_inHand (s : State) (r : Record) (forced : Bool) : (s.offerGrant r forced).inHand = s.inHand := by
  simp only [State.offerGrant]; repeat' split
  all_goals simp
@[simp] theorem State.offerGrant_pending (s : State) (r : Record) (forced : Bool) : (s.offerGrant r forced).pending = s.pending := by
  simp only [State.offerGrant]; repeat' split
  all_goals simp
@[simp] theorem State.offerGrant_li_rxDown (s : State) (r : Record) (forced : Bool) : (s.offerGrant r forced).li.rxDown = s.li.rxDown := by
  simp only [State.offerGrant]; repeat' split
  all_goals simp
@[simp] theorem State.offerGrant_li_rxUp (s : State) (r : Record) (forced : Bool) : (s.offerGrant r forced).li.rxUp = s.li.rxUp := by
  simp only [State.offerGrant]; repeat' split
  all_goals simp
@[simp] theorem State.offerGrant_li_downPath (s : State) (r : Record) (forced : Bool) : (s.offerGrant r forced).li.downPath = s.li.downPath := by
  simp only [State.offerGrant]; repeat' split
  all_goals simp
@[simp] theorem State.offerGrant_li_transit (s : State) (r : Record) (forced : Bool) : (s.offerGrant r forced).li.transit = s.li.transit := by
  simp only [State.offerGrant]; repeat' split
  all_goals simp
@[simp] theorem State.offerGrant_li_outUp (s : State) (r : Record) (forced : Bool) : (s.offerGrant r forced).li.outUp = s.li.outUp := by
  simp only [State.offerGrant]; repeat' split
  all_goals simp
@[simp] theorem State.offerGrant_li_wordUp (s : State) (r : Record) (forced : Bool) : (s.offerGrant r forced).li.wordUp = s.li.wordUp := by
  simp only [State.offerGrant]; repeat' split
  all_goals simp
@[simp] theorem State.offerGrant_li_outDown (s : State) (r : Record) (forced : Bool) : (s.offerGrant r forced).li.outDown = s.li.outDown := by
  simp only [State.offerGrant]; repeat' split
  all_goals simp
@[simp] theorem State.offerGrant_li_wordDown (s : State) (r : Record) (forced : Bool) : (s.offerGrant r forced).li.wordDown = s.li.wordDown := by
  simp only [State.offerGrant]; repeat' split
  all_goals simp
@[simp] theorem State.offerGrant_li_lastServed (s : State) (r : Record) (forced : Bool) : (s.offerGrant r forced).li.lastServed = s.li.lastServed := by
  simp only [State.offerGrant]; repeat' split
  all_goals simp

/-! ### offerReading -/

@[simp] theorem State.offerReading_rh (s : State) (k : ObsKind) (v : Int) : (s.offerReading k v).rh = s.rh := by
  simp only [State.offerReading]; repeat' split
  all_goals simp
@[simp] theorem State.offerReading_ge (s : State) (k : ObsKind) (v : Int) : (s.offerReading k v).ge = s.ge := by
  simp only [State.offerReading]; repeat' split
  all_goals simp
@[simp] theorem State.offerReading_te (s : State) (k : ObsKind) (v : Int) : (s.offerReading k v).te = s.te := by
  simp only [State.offerReading]; repeat' split
  all_goals simp
@[simp] theorem State.offerReading_ms (s : State) (k : ObsKind) (v : Int) : (s.offerReading k v).ms = s.ms := by
  simp only [State.offerReading]; repeat' split
  all_goals simp
@[simp] theorem State.offerReading_sa (s : State) (k : ObsKind) (v : Int) : (s.offerReading k v).sa = s.sa := by
  simp only [State.offerReading]; repeat' split
  all_goals simp
@[simp] theorem State.offerReading_cs (s : State) (k : ObsKind) (v : Int) : (s.offerReading k v).cs = s.cs := by
  simp only [State.offerReading]; repeat' split
  all_goals simp
@[simp] theorem State.offerReading_cb (s : State) (k : ObsKind) (v : Int) : (s.offerReading k v).cb = s.cb := by
  simp only [State.offerReading]; repeat' split
  all_goals simp
@[simp] theorem State.offerReading_ti (s : State) (k : ObsKind) (v : Int) : (s.offerReading k v).ti = s.ti := by
  simp only [State.offerReading]; repeat' split
  all_goals simp
@[simp] theorem State.offerReading_tg (s : State) (k : ObsKind) (v : Int) : (s.offerReading k v).tg = s.tg := by
  simp only [State.offerReading]; repeat' split
  all_goals simp
@[simp] theorem State.offerReading_pins (s : State) (k : ObsKind) (v : Int) : (s.offerReading k v).pins = s.pins := by
  simp only [State.offerReading]; repeat' split
  all_goals simp
@[simp] theorem State.offerReading_inHand (s : State) (k : ObsKind) (v : Int) : (s.offerReading k v).inHand = s.inHand := by
  simp only [State.offerReading]; repeat' split
  all_goals simp
@[simp] theorem State.offerReading_pending (s : State) (k : ObsKind) (v : Int) : (s.offerReading k v).pending = s.pending := by
  simp only [State.offerReading]; repeat' split
  all_goals simp
@[simp] theorem State.offerReading_li_rxDown (s : State) (k : ObsKind) (v : Int) : (s.offerReading k v).li.rxDown = s.li.rxDown := by
  simp only [State.offerReading]; repeat' split
  all_goals simp
@[simp] theorem State.offerReading_li_rxUp (s : State) (k : ObsKind) (v : Int) : (s.offerReading k v).li.rxUp = s.li.rxUp := by
  simp only [State.offerReading]; repeat' split
  all_goals simp
@[simp] theorem State.offerReading_li_downPath (s : State) (k : ObsKind) (v : Int) : (s.offerReading k v).li.downPath = s.li.downPath := by
  simp only [State.offerReading]; repeat' split
  all_goals simp
@[simp] theorem State.offerReading_li_transit (s : State) (k : ObsKind) (v : Int) : (s.offerReading k v).li.transit = s.li.transit := by
  simp only [State.offerReading]; repeat' split
  all_goals simp
@[simp] theorem State.offerReading_li_outUp (s : State) (k : ObsKind) (v : Int) : (s.offerReading k v).li.outUp = s.li.outUp := by
  simp only [State.offerReading]; repeat' split
  all_goals simp
@[simp] theorem State.offerReading_li_wordUp (s : State) (k : ObsKind) (v : Int) : (s.offerReading k v).li.wordUp = s.li.wordUp := by
  simp only [State.offerReading]; repeat' split
  all_goals simp
@[simp] theorem State.offerReading_li_outDown (s : State) (k : ObsKind) (v : Int) : (s.offerReading k v).li.outDown = s.li.outDown := by
  simp only [State.offerReading]; repeat' split
  all_goals simp
@[simp] theorem State.offerReading_li_wordDown (s : State) (k : ObsKind) (v : Int) : (s.offerReading k v).li.wordDown = s.li.wordDown := by
  simp only [State.offerReading]; repeat' split
  all_goals simp
@[simp] theorem State.offerReading_li_lastServed (s : State) (k : ObsKind) (v : Int) : (s.offerReading k v).li.lastServed = s.li.lastServed := by
  simp only [State.offerReading]; repeat' split
  all_goals simp

/-! ### evalZone -/

@[simp] theorem State.evalZone_rh (s : State) (m : Module) : (s.evalZone m).rh = s.rh := by
  simp only [State.evalZone]; repeat' split
  all_goals simp
@[simp] theorem State.evalZone_ge (s : State) (m : Module) : (s.evalZone m).ge = s.ge := by
  simp only [State.evalZone]; repeat' split
  all_goals simp
@[simp] theorem State.evalZone_ms (s : State) (m : Module) : (s.evalZone m).ms = s.ms := by
  simp only [State.evalZone]; repeat' split
  all_goals simp
@[simp] theorem State.evalZone_sa (s : State) (m : Module) : (s.evalZone m).sa = s.sa := by
  simp only [State.evalZone]; repeat' split
  all_goals simp
@[simp] theorem State.evalZone_cs (s : State) (m : Module) : (s.evalZone m).cs = s.cs := by
  simp only [State.evalZone]; repeat' split
  all_goals simp
@[simp] theorem State.evalZone_cb (s : State) (m : Module) : (s.evalZone m).cb = s.cb := by
  simp only [State.evalZone]; repeat' split
  all_goals simp
@[simp] theorem State.evalZone_ti (s : State) (m : Module) : (s.evalZone m).ti = s.ti := by
  simp only [State.evalZone]; repeat' split
  all_goals simp
@[simp] theorem State.evalZone_tg (s : State) (m : Module) : (s.evalZone m).tg = s.tg := by
  simp only [State.evalZone]; repeat' split
  all_goals simp
@[simp] theorem State.evalZone_pins (s : State) (m : Module) : (s.evalZone m).pins = s.pins := by
  simp only [State.evalZone]; repeat' split
  all_goals simp
@[simp] theorem State.evalZone_inHand (s : State) (m : Module) : (s.evalZone m).inHand = s.inHand := by
  simp only [State.evalZone]; repeat' split
  all_goals simp
@[simp] theorem State.evalZone_pending (s : State) (m : Module) : (s.evalZone m).pending = s.pending := by
  simp only [State.evalZone]; repeat' split
  all_goals simp
@[simp] theorem State.evalZone_li_rxDown (s : State) (m : Module) : (s.evalZone m).li.rxDown = s.li.rxDown := by
  simp only [State.evalZone]; repeat' split
  all_goals simp
@[simp] theorem State.evalZone_li_rxUp (s : State) (m : Module) : (s.evalZone m).li.rxUp = s.li.rxUp := by
  simp only [State.evalZone]; repeat' split
  all_goals simp
@[simp] theorem State.evalZone_li_downPath (s : State) (m : Module) : (s.evalZone m).li.downPath = s.li.downPath := by
  simp only [State.evalZone]; repeat' split
  all_goals simp
@[simp] theorem State.evalZone_li_transit (s : State) (m : Module) : (s.evalZone m).li.transit = s.li.transit := by
  simp only [State.evalZone]; repeat' split
  all_goals simp
@[simp] theorem State.evalZone_li_outUp (s : State) (m : Module) : (s.evalZone m).li.outUp = s.li.outUp := by
  simp only [State.evalZone]; repeat' split
  all_goals simp
@[simp] theorem State.evalZone_li_wordUp (s : State) (m : Module) : (s.evalZone m).li.wordUp = s.li.wordUp := by
  simp only [State.evalZone]; repeat' split
  all_goals simp
@[simp] theorem State.evalZone_li_outDown (s : State) (m : Module) : (s.evalZone m).li.outDown = s.li.outDown := by
  simp only [State.evalZone]; repeat' split
  all_goals simp
@[simp] theorem State.evalZone_li_wordDown (s : State) (m : Module) : (s.evalZone m).li.wordDown = s.li.wordDown := by
  simp only [State.evalZone]; repeat' split
  all_goals simp
@[simp] theorem State.evalZone_li_lastServed (s : State) (m : Module) : (s.evalZone m).li.lastServed = s.li.lastServed := by
  simp only [State.evalZone]; repeat' split
  all_goals simp

/-! ### evalZones -/

@[simp] theorem State.evalZones_rh (s : State) : (s.evalZones).rh = s.rh := by
  simp [State.evalZones]
@[simp] theorem State.evalZones_ge (s : State) : (s.evalZones).ge = s.ge := by
  simp [State.evalZones]
@[simp] theorem State.evalZones_ms (s : State) : (s.evalZones).ms = s.ms := by
  simp [State.evalZones]
@[simp] theorem State.evalZones_sa (s : State) : (s.evalZones).sa = s.sa := by
  simp [State.evalZones]
@[simp] theorem State.evalZones_cs (s : State) : (s.evalZones).cs = s.cs := by
  simp [State.evalZones]
@[simp] theorem State.evalZones_cb (s : State) : (s.evalZones).cb = s.cb := by
  simp [State.evalZones]
@[simp] theorem State.evalZones_ti (s : State) : (s.evalZones).ti = s.ti := by
  simp [State.evalZones]
@[simp] theorem State.evalZones_tg (s : State) : (s.evalZones).tg = s.tg := by
  simp [State.evalZones]
@[simp] theorem State.evalZones_pins (s : State) : (s.evalZones).pins = s.pins := by
  simp [State.evalZones]
@[simp] theorem State.evalZones_inHand (s : State) : (s.evalZones).inHand = s.inHand := by
  simp [State.evalZones]
@[simp] theorem State.evalZones_pending (s : State) : (s.evalZones).pending = s.pending := by
  simp [State.evalZones]
@[simp] theorem State.evalZones_li_rxDown (s : State) : (s.evalZones).li.rxDown = s.li.rxDown := by
  simp [State.evalZones]
@[simp] theorem State.evalZones_li_rxUp (s : State) : (s.evalZones).li.rxUp = s.li.rxUp := by
  simp [State.evalZones]
@[simp] theorem State.evalZones_li_downPath (s : State) : (s.evalZones).li.downPath = s.li.downPath := by
  simp [State.evalZones]
@[simp] theorem State.evalZones_li_transit (s : State) : (s.evalZones).li.transit = s.li.transit := by
  simp [State.evalZones]
@[simp] theorem State.evalZones_li_outUp (s : State) : (s.evalZones).li.outUp = s.li.outUp := by
  simp [State.evalZones]
@[simp] theorem State.evalZones_li_wordUp (s : State) : (s.evalZones).li.wordUp = s.li.wordUp := by
  simp [State.evalZones]
@[simp] theorem State.evalZones_li_outDown (s : State) : (s.evalZones).li.outDown = s.li.outDown := by
  simp [State.evalZones]
@[simp] theorem State.evalZones_li_wordDown (s : State) : (s.evalZones).li.wordDown = s.li.wordDown := by
  simp [State.evalZones]
@[simp] theorem State.evalZones_li_lastServed (s : State) : (s.evalZones).li.lastServed = s.li.lastServed := by
  simp [State.evalZones]

/-! ### thermalTick -/

@[simp] theorem State.thermalTick_rh (s : State) : (s.thermalTick).rh = s.rh := by
  simp [State.thermalTick]
@[simp] theorem State.thermalTick_ge (s : State) : (s.thermalTick).ge = s.ge := by
  simp [State.thermalTick]
@[simp] theorem State.thermalTick_ms (s : State) : (s.thermalTick).ms = s.ms := by
  simp [State.thermalTick]
@[simp] theorem State.thermalTick_sa (s : State) : (s.thermalTick).sa = s.sa := by
  simp [State.thermalTick]
@[simp] theorem State.thermalTick_cs (s : State) : (s.thermalTick).cs = s.cs := by
  simp [State.thermalTick]
@[simp] theorem State.thermalTick_cb (s : State) : (s.thermalTick).cb = s.cb := by
  simp [State.thermalTick]
@[simp] theorem State.thermalTick_ti (s : State) : (s.thermalTick).ti = s.ti := by
  simp [State.thermalTick]
@[simp] theorem State.thermalTick_tg (s : State) : (s.thermalTick).tg = s.tg := by
  simp [State.thermalTick]
@[simp] theorem State.thermalTick_pins (s : State) : (s.thermalTick).pins = s.pins := by
  simp [State.thermalTick]
@[simp] theorem State.thermalTick_inHand (s : State) : (s.thermalTick).inHand = s.inHand := by
  simp [State.thermalTick]
@[simp] theorem State.thermalTick_pending (s : State) : (s.thermalTick).pending = s.pending := by
  simp [State.thermalTick]
@[simp] theorem State.thermalTick_li_rxDown (s : State) : (s.thermalTick).li.rxDown = s.li.rxDown := by
  simp [State.thermalTick]
@[simp] theorem State.thermalTick_li_rxUp (s : State) : (s.thermalTick).li.rxUp = s.li.rxUp := by
  simp [State.thermalTick]
@[simp] theorem State.thermalTick_li_downPath (s : State) : (s.thermalTick).li.downPath = s.li.downPath := by
  simp [State.thermalTick]
@[simp] theorem State.thermalTick_li_transit (s : State) : (s.thermalTick).li.transit = s.li.transit := by
  simp [State.thermalTick]
@[simp] theorem State.thermalTick_li_outUp (s : State) : (s.thermalTick).li.outUp = s.li.outUp := by
  simp [State.thermalTick]
@[simp] theorem State.thermalTick_li_wordUp (s : State) : (s.thermalTick).li.wordUp = s.li.wordUp := by
  simp [State.thermalTick]
@[simp] theorem State.thermalTick_li_outDown (s : State) : (s.thermalTick).li.outDown = s.li.outDown := by
  simp [State.thermalTick]
@[simp] theorem State.thermalTick_li_wordDown (s : State) : (s.thermalTick).li.wordDown = s.li.wordDown := by
  simp [State.thermalTick]
@[simp] theorem State.thermalTick_li_lastServed (s : State) : (s.thermalTick).li.lastServed = s.li.lastServed := by
  simp [State.thermalTick]

/-! ### dieCorrection -/

@[simp] theorem State.dieCorrection_rh (s : State) (m : Module) (v : Int) : (s.dieCorrection m v).rh = s.rh := by
  simp [State.dieCorrection]
@[simp] theorem State.dieCorrection_ge (s : State) (m : Module) (v : Int) : (s.dieCorrection m v).ge = s.ge := by
  simp [State.dieCorrection]
@[simp] theorem State.dieCorrection_ms (s : State) (m : Module) (v : Int) : (s.dieCorrection m v).ms = s.ms := by
  simp [State.dieCorrection]
@[simp] theorem State.dieCorrection_sa (s : State) (m : Module) (v : Int) : (s.dieCorrection m v).sa = s.sa := by
  simp [State.dieCorrection]
@[simp] theorem State.dieCorrection_cs (s : State) (m : Module) (v : Int) : (s.dieCorrection m v).cs = s.cs := by
  simp [State.dieCorrection]
@[simp] theorem State.dieCorrection_cb (s : State) (m : Module) (v : Int) : (s.dieCorrection m v).cb = s.cb := by
  simp [State.dieCorrection]
@[simp] theorem State.dieCorrection_ti (s : State) (m : Module) (v : Int) : (s.dieCorrection m v).ti = s.ti := by
  simp [State.dieCorrection]
@[simp] theorem State.dieCorrection_tg (s : State) (m : Module) (v : Int) : (s.dieCorrection m v).tg = s.tg := by
  simp [State.dieCorrection]
@[simp] theorem State.dieCorrection_pins (s : State) (m : Module) (v : Int) : (s.dieCorrection m v).pins = s.pins := by
  simp [State.dieCorrection]
@[simp] theorem State.dieCorrection_inHand (s : State) (m : Module) (v : Int) : (s.dieCorrection m v).inHand = s.inHand := by
  simp [State.dieCorrection]
@[simp] theorem State.dieCorrection_pending (s : State) (m : Module) (v : Int) : (s.dieCorrection m v).pending = s.pending := by
  simp [State.dieCorrection]
@[simp] theorem State.dieCorrection_li_rxDown (s : State) (m : Module) (v : Int) : (s.dieCorrection m v).li.rxDown = s.li.rxDown := by
  simp [State.dieCorrection]
@[simp] theorem State.dieCorrection_li_rxUp (s : State) (m : Module) (v : Int) : (s.dieCorrection m v).li.rxUp = s.li.rxUp := by
  simp [State.dieCorrection]
@[simp] theorem State.dieCorrection_li_downPath (s : State) (m : Module) (v : Int) : (s.dieCorrection m v).li.downPath = s.li.downPath := by
  simp [State.dieCorrection]
@[simp] theorem State.dieCorrection_li_transit (s : State) (m : Module) (v : Int) : (s.dieCorrection m v).li.transit = s.li.transit := by
  simp [State.dieCorrection]
@[simp] theorem State.dieCorrection_li_outUp (s : State) (m : Module) (v : Int) : (s.dieCorrection m v).li.outUp = s.li.outUp := by
  simp [State.dieCorrection]
@[simp] theorem State.dieCorrection_li_wordUp (s : State) (m : Module) (v : Int) : (s.dieCorrection m v).li.wordUp = s.li.wordUp := by
  simp [State.dieCorrection]
@[simp] theorem State.dieCorrection_li_outDown (s : State) (m : Module) (v : Int) : (s.dieCorrection m v).li.outDown = s.li.outDown := by
  simp [State.dieCorrection]
@[simp] theorem State.dieCorrection_li_wordDown (s : State) (m : Module) (v : Int) : (s.dieCorrection m v).li.wordDown = s.li.wordDown := by
  simp [State.dieCorrection]
@[simp] theorem State.dieCorrection_li_lastServed (s : State) (m : Module) (v : Int) : (s.dieCorrection m v).li.lastServed = s.li.lastServed := by
  simp [State.dieCorrection]

/-! ### changeMismatch -/

@[simp] theorem State.changeMismatch_rh (s : State) (c : Chain) (n : MismatchState) : (s.changeMismatch c n).rh = s.rh := by
  simp [State.changeMismatch]
@[simp] theorem State.changeMismatch_ge (s : State) (c : Chain) (n : MismatchState) : (s.changeMismatch c n).ge = s.ge := by
  simp [State.changeMismatch]
@[simp] theorem State.changeMismatch_te (s : State) (c : Chain) (n : MismatchState) : (s.changeMismatch c n).te = s.te := by
  simp [State.changeMismatch]
@[simp] theorem State.changeMismatch_sa (s : State) (c : Chain) (n : MismatchState) : (s.changeMismatch c n).sa = s.sa := by
  simp [State.changeMismatch]
@[simp] theorem State.changeMismatch_cs (s : State) (c : Chain) (n : MismatchState) : (s.changeMismatch c n).cs = s.cs := by
  simp [State.changeMismatch]
@[simp] theorem State.changeMismatch_cb (s : State) (c : Chain) (n : MismatchState) : (s.changeMismatch c n).cb = s.cb := by
  simp [State.changeMismatch]
@[simp] theorem State.changeMismatch_ti (s : State) (c : Chain) (n : MismatchState) : (s.changeMismatch c n).ti = s.ti := by
  simp [State.changeMismatch]
@[simp] theorem State.changeMismatch_tg (s : State) (c : Chain) (n : MismatchState) : (s.changeMismatch c n).tg = s.tg := by
  simp [State.changeMismatch]
@[simp] theorem State.changeMismatch_pins (s : State) (c : Chain) (n : MismatchState) : (s.changeMismatch c n).pins = s.pins := by
  simp [State.changeMismatch]
@[simp] theorem State.changeMismatch_inHand (s : State) (c : Chain) (n : MismatchState) : (s.changeMismatch c n).inHand = s.inHand := by
  simp [State.changeMismatch]
@[simp] theorem State.changeMismatch_pending (s : State) (c : Chain) (n : MismatchState) : (s.changeMismatch c n).pending = s.pending := by
  simp [State.changeMismatch]
@[simp] theorem State.changeMismatch_li_rxDown (s : State) (c : Chain) (n : MismatchState) : (s.changeMismatch c n).li.rxDown = s.li.rxDown := by
  simp [State.changeMismatch]
@[simp] theorem State.changeMismatch_li_rxUp (s : State) (c : Chain) (n : MismatchState) : (s.changeMismatch c n).li.rxUp = s.li.rxUp := by
  simp [State.changeMismatch]
@[simp] theorem State.changeMismatch_li_downPath (s : State) (c : Chain) (n : MismatchState) : (s.changeMismatch c n).li.downPath = s.li.downPath := by
  simp [State.changeMismatch]
@[simp] theorem State.changeMismatch_li_transit (s : State) (c : Chain) (n : MismatchState) : (s.changeMismatch c n).li.transit = s.li.transit := by
  simp [State.changeMismatch]
@[simp] theorem State.changeMismatch_li_outUp (s : State) (c : Chain) (n : MismatchState) : (s.changeMismatch c n).li.outUp = s.li.outUp := by
  simp [State.changeMismatch]
@[simp] theorem State.changeMismatch_li_wordUp (s : State) (c : Chain) (n : MismatchState) : (s.changeMismatch c n).li.wordUp = s.li.wordUp := by
  simp [State.changeMismatch]
@[simp] theorem State.changeMismatch_li_outDown (s : State) (c : Chain) (n : MismatchState) : (s.changeMismatch c n).li.outDown = s.li.outDown := by
  simp [State.changeMismatch]
@[simp] theorem State.changeMismatch_li_wordDown (s : State) (c : Chain) (n : MismatchState) : (s.changeMismatch c n).li.wordDown = s.li.wordDown := by
  simp [State.changeMismatch]
@[simp] theorem State.changeMismatch_li_lastServed (s : State) (c : Chain) (n : MismatchState) : (s.changeMismatch c n).li.lastServed = s.li.lastServed := by
  simp [State.changeMismatch]

/-! ### flipResetChain -/

@[simp] theorem State.flipResetChain_rh (s : State) (c : Chain) : (s.flipResetChain c).rh = s.rh := by
  simp only [State.flipResetChain]; repeat' split
  all_goals simp
@[simp] theorem State.flipResetChain_ge (s : State) (c : Chain) : (s.flipResetChain c).ge = s.ge := by
  simp only [State.flipResetChain]; repeat' split
  all_goals simp
@[simp] theorem State.flipResetChain_te (s : State) (c : Chain) : (s.flipResetChain c).te = s.te := by
  simp only [State.flipResetChain]; repeat' split
  all_goals simp
@[simp] theorem State.flipResetChain_sa (s : State) (c : Chain) : (s.flipResetChain c).sa = s.sa := by
  simp only [State.flipResetChain]; repeat' split
  all_goals simp
@[simp] theorem State.flipResetChain_cs (s : State) (c : Chain) : (s.flipResetChain c).cs = s.cs := by
  simp only [State.flipResetChain]; repeat' split
  all_goals simp
@[simp] theorem State.flipResetChain_cb (s : State) (c : Chain) : (s.flipResetChain c).cb = s.cb := by
  simp only [State.flipResetChain]; repeat' split
  all_goals simp
@[simp] theorem State.flipResetChain_ti (s : State) (c : Chain) : (s.flipResetChain c).ti = s.ti := by
  simp only [State.flipResetChain]; repeat' split
  all_goals simp
@[simp] theorem State.flipResetChain_tg (s : State) (c : Chain) : (s.flipResetChain c).tg = s.tg := by
  simp only [State.flipResetChain]; repeat' split
  all_goals simp
@[simp] theorem State.flipResetChain_pins (s : State) (c : Chain) : (s.flipResetChain c).pins = s.pins := by
  simp only [State.flipResetChain]; repeat' split
  all_goals simp
@[simp] theorem State.flipResetChain_inHand (s : State) (c : Chain) : (s.flipResetChain c).inHand = s.inHand := by
  simp only [State.flipResetChain]; repeat' split
  all_goals simp
@[simp] theorem State.flipResetChain_pending (s : State) (c : Chain) : (s.flipResetChain c).pending = s.pending := by
  simp only [State.flipResetChain]; repeat' split
  all_goals simp
@[simp] theorem State.flipResetChain_li_rxDown (s : State) (c : Chain) : (s.flipResetChain c).li.rxDown = s.li.rxDown := by
  simp only [State.flipResetChain]; repeat' split
  all_goals simp
@[simp] theorem State.flipResetChain_li_rxUp (s : State) (c : Chain) : (s.flipResetChain c).li.rxUp = s.li.rxUp := by
  simp only [State.flipResetChain]; repeat' split
  all_goals simp
@[simp] theorem State.flipResetChain_li_downPath (s : State) (c : Chain) : (s.flipResetChain c).li.downPath = s.li.downPath := by
  simp only [State.flipResetChain]; repeat' split
  all_goals simp
@[simp] theorem State.flipResetChain_li_transit (s : State) (c : Chain) : (s.flipResetChain c).li.transit = s.li.transit := by
  simp only [State.flipResetChain]; repeat' split
  all_goals simp
@[simp] theorem State.flipResetChain_li_outUp (s : State) (c : Chain) : (s.flipResetChain c).li.outUp = s.li.outUp := by
  simp only [State.flipResetChain]; repeat' split
  all_goals simp
@[simp] theorem State.flipResetChain_li_wordUp (s : State) (c : Chain) : (s.flipResetChain c).li.wordUp = s.li.wordUp := by
  simp only [State.flipResetChain]; repeat' split
  all_goals simp
@[simp] theorem State.flipResetChain_li_outDown (s : State) (c : Chain) : (s.flipResetChain c).li.outDown = s.li.outDown := by
  simp only [State.flipResetChain]; repeat' split
  all_goals simp
@[simp] theorem State.flipResetChain_li_wordDown (s : State) (c : Chain) : (s.flipResetChain c).li.wordDown = s.li.wordDown := by
  simp only [State.flipResetChain]; repeat' split
  all_goals simp
@[simp] theorem State.flipResetChain_li_lastServed (s : State) (c : Chain) : (s.flipResetChain c).li.lastServed = s.li.lastServed := by
  simp only [State.flipResetChain]; repeat' split
  all_goals simp

/-! ### flipResetAbsent -/

@[simp] theorem State.flipResetAbsent_rh (s : State) (c : Chain) : (s.flipResetAbsent c).rh = s.rh := by
  simp only [State.flipResetAbsent]; repeat' split
  all_goals simp
@[simp] theorem State.flipResetAbsent_ge (s : State) (c : Chain) : (s.flipResetAbsent c).ge = s.ge := by
  simp only [State.flipResetAbsent]; repeat' split
  all_goals simp
@[simp] theorem State.flipResetAbsent_te (s : State) (c : Chain) : (s.flipResetAbsent c).te = s.te := by
  simp only [State.flipResetAbsent]; repeat' split
  all_goals simp
@[simp] theorem State.flipResetAbsent_sa (s : State) (c : Chain) : (s.flipResetAbsent c).sa = s.sa := by
  simp only [State.flipResetAbsent]; repeat' split
  all_goals simp
@[simp] theorem State.flipResetAbsent_cs (s : State) (c : Chain) : (s.flipResetAbsent c).cs = s.cs := by
  simp only [State.flipResetAbsent]; repeat' split
  all_goals simp
@[simp] theorem State.flipResetAbsent_cb (s : State) (c : Chain) : (s.flipResetAbsent c).cb = s.cb := by
  simp only [State.flipResetAbsent]; repeat' split
  all_goals simp
@[simp] theorem State.flipResetAbsent_ti (s : State) (c : Chain) : (s.flipResetAbsent c).ti = s.ti := by
  simp only [State.flipResetAbsent]; repeat' split
  all_goals simp
@[simp] theorem State.flipResetAbsent_tg (s : State) (c : Chain) : (s.flipResetAbsent c).tg = s.tg := by
  simp only [State.flipResetAbsent]; repeat' split
  all_goals simp
@[simp] theorem State.flipResetAbsent_pins (s : State) (c : Chain) : (s.flipResetAbsent c).pins = s.pins := by
  simp only [State.flipResetAbsent]; repeat' split
  all_goals simp
@[simp] theorem State.flipResetAbsent_inHand (s : State) (c : Chain) : (s.flipResetAbsent c).inHand = s.inHand := by
  simp only [State.flipResetAbsent]; repeat' split
  all_goals simp
@[simp] theorem State.flipResetAbsent_pending (s : State) (c : Chain) : (s.flipResetAbsent c).pending = s.pending := by
  simp only [State.flipResetAbsent]; repeat' split
  all_goals simp
@[simp] theorem State.flipResetAbsent_li_rxDown (s : State) (c : Chain) : (s.flipResetAbsent c).li.rxDown = s.li.rxDown := by
  simp only [State.flipResetAbsent]; repeat' split
  all_goals simp
@[simp] theorem State.flipResetAbsent_li_rxUp (s : State) (c : Chain) : (s.flipResetAbsent c).li.rxUp = s.li.rxUp := by
  simp only [State.flipResetAbsent]; repeat' split
  all_goals simp
@[simp] theorem State.flipResetAbsent_li_downPath (s : State) (c : Chain) : (s.flipResetAbsent c).li.downPath = s.li.downPath := by
  simp only [State.flipResetAbsent]; repeat' split
  all_goals simp
@[simp] theorem State.flipResetAbsent_li_transit (s : State) (c : Chain) : (s.flipResetAbsent c).li.transit = s.li.transit := by
  simp only [State.flipResetAbsent]; repeat' split
  all_goals simp
@[simp] theorem State.flipResetAbsent_li_outUp (s : State) (c : Chain) : (s.flipResetAbsent c).li.outUp = s.li.outUp := by
  simp only [State.flipResetAbsent]; repeat' split
  all_goals simp
@[simp] theorem State.flipResetAbsent_li_wordUp (s : State) (c : Chain) : (s.flipResetAbsent c).li.wordUp = s.li.wordUp := by
  simp only [State.flipResetAbsent]; repeat' split
  all_goals simp
@[simp] theorem State.flipResetAbsent_li_outDown (s : State) (c : Chain) : (s.flipResetAbsent c).li.outDown = s.li.outDown := by
  simp only [State.flipResetAbsent]; repeat' split
  all_goals simp
@[simp] theorem State.flipResetAbsent_li_wordDown (s : State) (c : Chain) : (s.flipResetAbsent c).li.wordDown = s.li.wordDown := by
  simp only [State.flipResetAbsent]; repeat' split
  all_goals simp
@[simp] theorem State.flipResetAbsent_li_lastServed (s : State) (c : Chain) : (s.flipResetAbsent c).li.lastServed = s.li.lastServed := by
  simp only [State.flipResetAbsent]; repeat' split
  all_goals simp

/-! ### evalCharge -/

@[simp] theorem State.evalCharge_rh (s : State) : (s.evalCharge).rh = s.rh := by
  simp only [State.evalCharge]; repeat' split
  all_goals simp
@[simp] theorem State.evalCharge_ge (s : State) : (s.evalCharge).ge = s.ge := by
  simp only [State.evalCharge]; repeat' split
  all_goals simp
@[simp] theorem State.evalCharge_te (s : State) : (s.evalCharge).te = s.te := by
  simp only [State.evalCharge]; repeat' split
  all_goals simp
@[simp] theorem State.evalCharge_ms (s : State) : (s.evalCharge).ms = s.ms := by
  simp only [State.evalCharge]; repeat' split
  all_goals simp
@[simp] theorem State.evalCharge_cs (s : State) : (s.evalCharge).cs = s.cs := by
  simp only [State.evalCharge]; repeat' split
  all_goals simp
@[simp] theorem State.evalCharge_cb (s : State) : (s.evalCharge).cb = s.cb := by
  simp only [State.evalCharge]; repeat' split
  all_goals simp
@[simp] theorem State.evalCharge_ti (s : State) : (s.evalCharge).ti = s.ti := by
  simp only [State.evalCharge]; repeat' split
  all_goals simp
@[simp] theorem State.evalCharge_tg (s : State) : (s.evalCharge).tg = s.tg := by
  simp only [State.evalCharge]; repeat' split
  all_goals simp
@[simp] theorem State.evalCharge_pins (s : State) : (s.evalCharge).pins = s.pins := by
  simp only [State.evalCharge]; repeat' split
  all_goals simp
@[simp] theorem State.evalCharge_inHand (s : State) : (s.evalCharge).inHand = s.inHand := by
  simp only [State.evalCharge]; repeat' split
  all_goals simp
@[simp] theorem State.evalCharge_pending (s : State) : (s.evalCharge).pending = s.pending := by
  simp only [State.evalCharge]; repeat' split
  all_goals simp
@[simp] theorem State.evalCharge_li_rxDown (s : State) : (s.evalCharge).li.rxDown = s.li.rxDown := by
  simp only [State.evalCharge]; repeat' split
  all_goals simp
@[simp] theorem State.evalCharge_li_rxUp (s : State) : (s.evalCharge).li.rxUp = s.li.rxUp := by
  simp only [State.evalCharge]; repeat' split
  all_goals simp
@[simp] theorem State.evalCharge_li_downPath (s : State) : (s.evalCharge).li.downPath = s.li.downPath := by
  simp only [State.evalCharge]; repeat' split
  all_goals simp
@[simp] theorem State.evalCharge_li_transit (s : State) : (s.evalCharge).li.transit = s.li.transit := by
  simp only [State.evalCharge]; repeat' split
  all_goals simp
@[simp] theorem State.evalCharge_li_outUp (s : State) : (s.evalCharge).li.outUp = s.li.outUp := by
  simp only [State.evalCharge]; repeat' split
  all_goals simp
@[simp] theorem State.evalCharge_li_wordUp (s : State) : (s.evalCharge).li.wordUp = s.li.wordUp := by
  simp only [State.evalCharge]; repeat' split
  all_goals simp
@[simp] theorem State.evalCharge_li_outDown (s : State) : (s.evalCharge).li.outDown = s.li.outDown := by
  simp only [State.evalCharge]; repeat' split
  all_goals simp
@[simp] theorem State.evalCharge_li_wordDown (s : State) : (s.evalCharge).li.wordDown = s.li.wordDown := by
  simp only [State.evalCharge]; repeat' split
  all_goals simp
@[simp] theorem State.evalCharge_li_lastServed (s : State) : (s.evalCharge).li.lastServed = s.li.lastServed := by
  simp only [State.evalCharge]; repeat' split
  all_goals simp

/-! ### addCharge -/

@[simp] theorem State.addCharge_rh (s : State) (n : Nat) : (s.addCharge n).rh = s.rh := by
  simp [State.addCharge]
@[simp] theorem State.addCharge_ge (s : State) (n : Nat) : (s.addCharge n).ge = s.ge := by
  simp [State.addCharge]
@[simp] theorem State.addCharge_te (s : State) (n : Nat) : (s.addCharge n).te = s.te := by
  simp [State.addCharge]
@[simp] theorem State.addCharge_ms (s : State) (n : Nat) : (s.addCharge n).ms = s.ms := by
  simp [State.addCharge]
@[simp] theorem State.addCharge_cs (s : State) (n : Nat) : (s.addCharge n).cs = s.cs := by
  simp [State.addCharge]
@[simp] theorem State.addCharge_cb (s : State) (n : Nat) : (s.addCharge n).cb = s.cb := by
  simp [State.addCharge]
@[simp] theorem State.addCharge_ti (s : State) (n : Nat) : (s.addCharge n).ti = s.ti := by
  simp [State.addCharge]
@[simp] theorem State.addCharge_tg (s : State) (n : Nat) : (s.addCharge n).tg = s.tg := by
  simp [State.addCharge]
@[simp] theorem State.addCharge_pins (s : State) (n : Nat) : (s.addCharge n).pins = s.pins := by
  simp [State.addCharge]
@[simp] theorem State.addCharge_inHand (s : State) (n : Nat) : (s.addCharge n).inHand = s.inHand := by
  simp [State.addCharge]
@[simp] theorem State.addCharge_pending (s : State) (n : Nat) : (s.addCharge n).pending = s.pending := by
  simp [State.addCharge]
@[simp] theorem State.addCharge_li_rxDown (s : State) (n : Nat) : (s.addCharge n).li.rxDown = s.li.rxDown := by
  simp [State.addCharge]
@[simp] theorem State.addCharge_li_rxUp (s : State) (n : Nat) : (s.addCharge n).li.rxUp = s.li.rxUp := by
  simp [State.addCharge]
@[simp] theorem State.addCharge_li_downPath (s : State) (n : Nat) : (s.addCharge n).li.downPath = s.li.downPath := by
  simp [State.addCharge]
@[simp] theorem State.addCharge_li_transit (s : State) (n : Nat) : (s.addCharge n).li.transit = s.li.transit := by
  simp [State.addCharge]
@[simp] theorem State.addCharge_li_outUp (s : State) (n : Nat) : (s.addCharge n).li.outUp = s.li.outUp := by
  simp [State.addCharge]
@[simp] theorem State.addCharge_li_wordUp (s : State) (n : Nat) : (s.addCharge n).li.wordUp = s.li.wordUp := by
  simp [State.addCharge]
@[simp] theorem State.addCharge_li_outDown (s : State) (n : Nat) : (s.addCharge n).li.outDown = s.li.outDown := by
  simp [State.addCharge]
@[simp] theorem State.addCharge_li_wordDown (s : State) (n : Nat) : (s.addCharge n).li.wordDown = s.li.wordDown := by
  simp [State.addCharge]
@[simp] theorem State.addCharge_li_lastServed (s : State) (n : Nat) : (s.addCharge n).li.lastServed = s.li.lastServed := by
  simp [State.addCharge]

/-! ### rotate -/

@[simp] theorem State.rotate_rh (s : State) : (s.rotate).rh = s.rh := by
  simp [State.rotate]
@[simp] theorem State.rotate_ge (s : State) : (s.rotate).ge = s.ge := by
  simp [State.rotate]
@[simp] theorem State.rotate_te (s : State) : (s.rotate).te = s.te := by
  simp [State.rotate]
@[simp] theorem State.rotate_ms (s : State) : (s.rotate).ms = s.ms := by
  simp [State.rotate]
@[simp] theorem State.rotate_cs (s : State) : (s.rotate).cs = s.cs := by
  simp [State.rotate]
@[simp] theorem State.rotate_cb (s : State) : (s.rotate).cb = s.cb := by
  simp [State.rotate]
@[simp] theorem State.rotate_ti (s : State) : (s.rotate).ti = s.ti := by
  simp [State.rotate]
@[simp] theorem State.rotate_tg (s : State) : (s.rotate).tg = s.tg := by
  simp [State.rotate]
@[simp] theorem State.rotate_pins (s : State) : (s.rotate).pins = s.pins := by
  simp [State.rotate]
@[simp] theorem State.rotate_inHand (s : State) : (s.rotate).inHand = s.inHand := by
  simp [State.rotate]
@[simp] theorem State.rotate_pending (s : State) : (s.rotate).pending = s.pending := by
  simp [State.rotate]
@[simp] theorem State.rotate_li_rxDown (s : State) : (s.rotate).li.rxDown = s.li.rxDown := by
  simp [State.rotate]
@[simp] theorem State.rotate_li_rxUp (s : State) : (s.rotate).li.rxUp = s.li.rxUp := by
  simp [State.rotate]
@[simp] theorem State.rotate_li_downPath (s : State) : (s.rotate).li.downPath = s.li.downPath := by
  simp [State.rotate]
@[simp] theorem State.rotate_li_transit (s : State) : (s.rotate).li.transit = s.li.transit := by
  simp [State.rotate]
@[simp] theorem State.rotate_li_outUp (s : State) : (s.rotate).li.outUp = s.li.outUp := by
  simp [State.rotate]
@[simp] theorem State.rotate_li_wordUp (s : State) : (s.rotate).li.wordUp = s.li.wordUp := by
  simp [State.rotate]
@[simp] theorem State.rotate_li_outDown (s : State) : (s.rotate).li.outDown = s.li.outDown := by
  simp [State.rotate]
@[simp] theorem State.rotate_li_wordDown (s : State) : (s.rotate).li.wordDown = s.li.wordDown := by
  simp [State.rotate]
@[simp] theorem State.rotate_li_lastServed (s : State) : (s.rotate).li.lastServed = s.li.lastServed := by
  simp [State.rotate]

/-! ### applyFlip -/

@[simp] theorem State.applyFlip_rh (s : State) (p : FlipPoint) : (s.applyFlip p).rh = s.rh := by
  simp [State.applyFlip]
@[simp] theorem State.applyFlip_te (s : State) (p : FlipPoint) : (s.applyFlip p).te = s.te := by
  simp [State.applyFlip]
@[simp] theorem State.applyFlip_sa (s : State) (p : FlipPoint) : (s.applyFlip p).sa = s.sa := by
  simp [State.applyFlip]
@[simp] theorem State.applyFlip_cs (s : State) (p : FlipPoint) : (s.applyFlip p).cs = s.cs := by
  simp [State.applyFlip]
@[simp] theorem State.applyFlip_ti (s : State) (p : FlipPoint) : (s.applyFlip p).ti = s.ti := by
  simp [State.applyFlip]
@[simp] theorem State.applyFlip_tg (s : State) (p : FlipPoint) : (s.applyFlip p).tg = s.tg := by
  simp [State.applyFlip]
@[simp] theorem State.applyFlip_pins (s : State) (p : FlipPoint) : (s.applyFlip p).pins = s.pins := by
  simp [State.applyFlip]
@[simp] theorem State.applyFlip_inHand (s : State) (p : FlipPoint) : (s.applyFlip p).inHand = s.inHand := by
  simp [State.applyFlip]
@[simp] theorem State.applyFlip_pending (s : State) (p : FlipPoint) : (s.applyFlip p).pending = s.pending := by
  simp [State.applyFlip]
@[simp] theorem State.applyFlip_li_rxDown (s : State) (p : FlipPoint) : (s.applyFlip p).li.rxDown = s.li.rxDown := by
  simp [State.applyFlip]
@[simp] theorem State.applyFlip_li_rxUp (s : State) (p : FlipPoint) : (s.applyFlip p).li.rxUp = s.li.rxUp := by
  simp [State.applyFlip]
@[simp] theorem State.applyFlip_li_downPath (s : State) (p : FlipPoint) : (s.applyFlip p).li.downPath = s.li.downPath := by
  simp [State.applyFlip]
@[simp] theorem State.applyFlip_li_transit (s : State) (p : FlipPoint) : (s.applyFlip p).li.transit = s.li.transit := by
  simp [State.applyFlip]
@[simp] theorem State.applyFlip_li_outUp (s : State) (p : FlipPoint) : (s.applyFlip p).li.outUp = s.li.outUp := by
  simp [State.applyFlip]
@[simp] theorem State.applyFlip_li_wordUp (s : State) (p : FlipPoint) : (s.applyFlip p).li.wordUp = s.li.wordUp := by
  simp [State.applyFlip]
@[simp] theorem State.applyFlip_li_outDown (s : State) (p : FlipPoint) : (s.applyFlip p).li.outDown = s.li.outDown := by
  simp [State.applyFlip]
@[simp] theorem State.applyFlip_li_wordDown (s : State) (p : FlipPoint) : (s.applyFlip p).li.wordDown = s.li.wordDown := by
  simp [State.applyFlip]
@[simp] theorem State.applyFlip_li_lastServed (s : State) (p : FlipPoint) : (s.applyFlip p).li.lastServed = s.li.lastServed := by
  simp [State.applyFlip]

/-! ### worsen -/

@[simp] theorem State.worsen_rh (s : State) (c : Chain) (n : MismatchState) : (s.worsen c n).rh = s.rh := by
  simp only [State.worsen]; repeat' split
  all_goals simp
@[simp] theorem State.worsen_ge (s : State) (c : Chain) (n : MismatchState) : (s.worsen c n).ge = s.ge := by
  simp only [State.worsen]; repeat' split
  all_goals simp
@[simp] theorem State.worsen_te (s : State) (c : Chain) (n : MismatchState) : (s.worsen c n).te = s.te := by
  simp only [State.worsen]; repeat' split
  all_goals simp
@[simp] theorem State.worsen_sa (s : State) (c : Chain) (n : MismatchState) : (s.worsen c n).sa = s.sa := by
  simp only [State.worsen]; repeat' split
  all_goals simp
@[simp] theorem State.worsen_cs (s : State) (c : Chain) (n : MismatchState) : (s.worsen c n).cs = s.cs := by
  simp only [State.worsen]; repeat' split
  all_goals simp
@[simp] theorem State.worsen_cb (s : State) (c : Chain) (n : MismatchState) : (s.worsen c n).cb = s.cb := by
  simp only [State.worsen]; repeat' split
  all_goals simp
@[simp] theorem State.worsen_ti (s : State) (c : Chain) (n : MismatchState) : (s.worsen c n).ti = s.ti := by
  simp only [State.worsen]; repeat' split
  all_goals simp
@[simp] theorem State.worsen_tg (s : State) (c : Chain) (n : MismatchState) : (s.worsen c n).tg = s.tg := by
  simp only [State.worsen]; repeat' split
  all_goals simp
@[simp] theorem State.worsen_pins (s : State) (c : Chain) (n : MismatchState) : (s.worsen c n).pins = s.pins := by
  simp only [State.worsen]; repeat' split
  all_goals simp
@[simp] theorem State.worsen_inHand (s : State) (c : Chain) (n : MismatchState) : (s.worsen c n).inHand = s.inHand := by
  simp only [State.worsen]; repeat' split
  all_goals simp
@[simp] theorem State.worsen_pending (s : State) (c : Chain) (n : MismatchState) : (s.worsen c n).pending = s.pending := by
  simp only [State.worsen]; repeat' split
  all_goals simp
@[simp] theorem State.worsen_li_rxDown (s : State) (c : Chain) (n : MismatchState) : (s.worsen c n).li.rxDown = s.li.rxDown := by
  simp only [State.worsen]; repeat' split
  all_goals simp
@[simp] theorem State.worsen_li_rxUp (s : State) (c : Chain) (n : MismatchState) : (s.worsen c n).li.rxUp = s.li.rxUp := by
  simp only [State.worsen]; repeat' split
  all_goals simp
@[simp] theorem State.worsen_li_downPath (s : State) (c : Chain) (n : MismatchState) : (s.worsen c n).li.downPath = s.li.downPath := by
  simp only [State.worsen]; repeat' split
  all_goals simp
@[simp] theorem State.worsen_li_transit (s : State) (c : Chain) (n : MismatchState) : (s.worsen c n).li.transit = s.li.transit := by
  simp only [State.worsen]; repeat' split
  all_goals simp
@[simp] theorem State.worsen_li_outUp (s : State) (c : Chain) (n : MismatchState) : (s.worsen c n).li.outUp = s.li.outUp := by
  simp only [State.worsen]; repeat' split
  all_goals simp
@[simp] theorem State.worsen_li_wordUp (s : State) (c : Chain) (n : MismatchState) : (s.worsen c n).li.wordUp = s.li.wordUp := by
  simp only [State.worsen]; repeat' split
  all_goals simp
@[simp] theorem State.worsen_li_outDown (s : State) (c : Chain) (n : MismatchState) : (s.worsen c n).li.outDown = s.li.outDown := by
  simp only [State.worsen]; repeat' split
  all_goals simp
@[simp] theorem State.worsen_li_wordDown (s : State) (c : Chain) (n : MismatchState) : (s.worsen c n).li.wordDown = s.li.wordDown := by
  simp only [State.worsen]; repeat' split
  all_goals simp
@[simp] theorem State.worsen_li_lastServed (s : State) (c : Chain) (n : MismatchState) : (s.worsen c n).li.lastServed = s.li.lastServed := by
  simp only [State.worsen]; repeat' split
  all_goals simp

/-! ### evaluateReading -/

@[simp] theorem State.evaluateReading_rh (s : State) (c : Chain) (rl : Int) : (s.evaluateReading c rl).rh = s.rh := by
  simp only [State.evaluateReading]; repeat' split
  all_goals simp
@[simp] theorem State.evaluateReading_ge (s : State) (c : Chain) (rl : Int) : (s.evaluateReading c rl).ge = s.ge := by
  simp only [State.evaluateReading]; repeat' split
  all_goals simp
@[simp] theorem State.evaluateReading_te (s : State) (c : Chain) (rl : Int) : (s.evaluateReading c rl).te = s.te := by
  simp only [State.evaluateReading]; repeat' split
  all_goals simp
@[simp] theorem State.evaluateReading_sa (s : State) (c : Chain) (rl : Int) : (s.evaluateReading c rl).sa = s.sa := by
  simp only [State.evaluateReading]; repeat' split
  all_goals simp
@[simp] theorem State.evaluateReading_cs (s : State) (c : Chain) (rl : Int) : (s.evaluateReading c rl).cs = s.cs := by
  simp only [State.evaluateReading]; repeat' split
  all_goals simp
@[simp] theorem State.evaluateReading_cb (s : State) (c : Chain) (rl : Int) : (s.evaluateReading c rl).cb = s.cb := by
  simp only [State.evaluateReading]; repeat' split
  all_goals simp
@[simp] theorem State.evaluateReading_ti (s : State) (c : Chain) (rl : Int) : (s.evaluateReading c rl).ti = s.ti := by
  simp only [State.evaluateReading]; repeat' split
  all_goals simp
@[simp] theorem State.evaluateReading_tg (s : State) (c : Chain) (rl : Int) : (s.evaluateReading c rl).tg = s.tg := by
  simp only [State.evaluateReading]; repeat' split
  all_goals simp
@[simp] theorem State.evaluateReading_pins (s : State) (c : Chain) (rl : Int) : (s.evaluateReading c rl).pins = s.pins := by
  simp only [State.evaluateReading]; repeat' split
  all_goals simp
@[simp] theorem State.evaluateReading_inHand (s : State) (c : Chain) (rl : Int) : (s.evaluateReading c rl).inHand = s.inHand := by
  simp only [State.evaluateReading]; repeat' split
  all_goals simp
@[simp] theorem State.evaluateReading_pending (s : State) (c : Chain) (rl : Int) : (s.evaluateReading c rl).pending = s.pending := by
  simp only [State.evaluateReading]; repeat' split
  all_goals simp
@[simp] theorem State.evaluateReading_li_rxDown (s : State) (c : Chain) (rl : Int) : (s.evaluateReading c rl).li.rxDown = s.li.rxDown := by
  simp only [State.evaluateReading]; repeat' split
  all_goals simp
@[simp] theorem State.evaluateReading_li_rxUp (s : State) (c : Chain) (rl : Int) : (s.evaluateReading c rl).li.rxUp = s.li.rxUp := by
  simp only [State.evaluateReading]; repeat' split
  all_goals simp
@[simp] theorem State.evaluateReading_li_downPath (s : State) (c : Chain) (rl : Int) : (s.evaluateReading c rl).li.downPath = s.li.downPath := by
  simp only [State.evaluateReading]; repeat' split
  all_goals simp
@[simp] theorem State.evaluateReading_li_transit (s : State) (c : Chain) (rl : Int) : (s.evaluateReading c rl).li.transit = s.li.transit := by
  simp only [State.evaluateReading]; repeat' split
  all_goals simp
@[simp] theorem State.evaluateReading_li_outUp (s : State) (c : Chain) (rl : Int) : (s.evaluateReading c rl).li.outUp = s.li.outUp := by
  simp only [State.evaluateReading]; repeat' split
  all_goals simp
@[simp] theorem State.evaluateReading_li_wordUp (s : State) (c : Chain) (rl : Int) : (s.evaluateReading c rl).li.wordUp = s.li.wordUp := by
  simp only [State.evaluateReading]; repeat' split
  all_goals simp
@[simp] theorem State.evaluateReading_li_outDown (s : State) (c : Chain) (rl : Int) : (s.evaluateReading c rl).li.outDown = s.li.outDown := by
  simp only [State.evaluateReading]; repeat' split
  all_goals simp
@[simp] theorem State.evaluateReading_li_wordDown (s : State) (c : Chain) (rl : Int) : (s.evaluateReading c rl).li.wordDown = s.li.wordDown := by
  simp only [State.evaluateReading]; repeat' split
  all_goals simp
@[simp] theorem State.evaluateReading_li_lastServed (s : State) (c : Chain) (rl : Int) : (s.evaluateReading c rl).li.lastServed = s.li.lastServed := by
  simp only [State.evaluateReading]; repeat' split
  all_goals simp

/-! ### reflDelivered -/

@[simp] theorem State.reflDelivered_rh (s : State) (c : Chain) (v : Int) : (s.reflDelivered c v).rh = s.rh := by
  simp only [State.reflDelivered]; repeat' split
  all_goals simp
@[simp] theorem State.reflDelivered_ge (s : State) (c : Chain) (v : Int) : (s.reflDelivered c v).ge = s.ge := by
  simp only [State.reflDelivered]; repeat' split
  all_goals simp
@[simp] theorem State.reflDelivered_te (s : State) (c : Chain) (v : Int) : (s.reflDelivered c v).te = s.te := by
  simp only [State.reflDelivered]; repeat' split
  all_goals simp
@[simp] theorem State.reflDelivered_sa (s : State) (c : Chain) (v : Int) : (s.reflDelivered c v).sa = s.sa := by
  simp only [State.reflDelivered]; repeat' split
  all_goals simp
@[simp] theorem State.reflDelivered_cs (s : State) (c : Chain) (v : Int) : (s.reflDelivered c v).cs = s.cs := by
  simp only [State.reflDelivered]; repeat' split
  all_goals simp
@[simp] theorem State.reflDelivered_cb (s : State) (c : Chain) (v : Int) : (s.reflDelivered c v).cb = s.cb := by
  simp only [State.reflDelivered]; repeat' split
  all_goals simp
@[simp] theorem State.reflDelivered_ti (s : State) (c : Chain) (v : Int) : (s.reflDelivered c v).ti = s.ti := by
  simp only [State.reflDelivered]; repeat' split
  all_goals simp
@[simp] theorem State.reflDelivered_tg (s : State) (c : Chain) (v : Int) : (s.reflDelivered c v).tg = s.tg := by
  simp only [State.reflDelivered]; repeat' split
  all_goals simp
@[simp] theorem State.reflDelivered_pins (s : State) (c : Chain) (v : Int) : (s.reflDelivered c v).pins = s.pins := by
  simp only [State.reflDelivered]; repeat' split
  all_goals simp
@[simp] theorem State.reflDelivered_inHand (s : State) (c : Chain) (v : Int) : (s.reflDelivered c v).inHand = s.inHand := by
  simp only [State.reflDelivered]; repeat' split
  all_goals simp
@[simp] theorem State.reflDelivered_pending (s : State) (c : Chain) (v : Int) : (s.reflDelivered c v).pending = s.pending := by
  simp only [State.reflDelivered]; repeat' split
  all_goals simp
@[simp] theorem State.reflDelivered_li_rxDown (s : State) (c : Chain) (v : Int) : (s.reflDelivered c v).li.rxDown = s.li.rxDown := by
  simp only [State.reflDelivered]; repeat' split
  all_goals simp
@[simp] theorem State.reflDelivered_li_rxUp (s : State) (c : Chain) (v : Int) : (s.reflDelivered c v).li.rxUp = s.li.rxUp := by
  simp only [State.reflDelivered]; repeat' split
  all_goals simp
@[simp] theorem State.reflDelivered_li_downPath (s : State) (c : Chain) (v : Int) : (s.reflDelivered c v).li.downPath = s.li.downPath := by
  simp only [State.reflDelivered]; repeat' split
  all_goals simp
@[simp] theorem State.reflDelivered_li_transit (s : State) (c : Chain) (v : Int) : (s.reflDelivered c v).li.transit = s.li.transit := by
  simp only [State.reflDelivered]; repeat' split
  all_goals simp
@[simp] theorem State.reflDelivered_li_outUp (s : State) (c : Chain) (v : Int) : (s.reflDelivered c v).li.outUp = s.li.outUp := by
  simp only [State.reflDelivered]; repeat' split
  all_goals simp
@[simp] theorem State.reflDelivered_li_wordUp (s : State) (c : Chain) (v : Int) : (s.reflDelivered c v).li.wordUp = s.li.wordUp := by
  simp only [State.reflDelivered]; repeat' split
  all_goals simp
@[simp] theorem State.reflDelivered_li_outDown (s : State) (c : Chain) (v : Int) : (s.reflDelivered c v).li.outDown = s.li.outDown := by
  simp only [State.reflDelivered]; repeat' split
  all_goals simp
@[simp] theorem State.reflDelivered_li_wordDown (s : State) (c : Chain) (v : Int) : (s.reflDelivered c v).li.wordDown = s.li.wordDown := by
  simp only [State.reflDelivered]; repeat' split
  all_goals simp
@[simp] theorem State.reflDelivered_li_lastServed (s : State) (c : Chain) (v : Int) : (s.reflDelivered c v).li.lastServed = s.li.lastServed := by
  simp only [State.reflDelivered]; repeat' split
  all_goals simp

/-! ### deliverReading -/

@[simp] theorem State.deliverReading_rh (s : State) (k : ObsKind) (v : Int) : (s.deliverReading k v).rh = s.rh := by
  cases k <;> simp [State.deliverReading]
@[simp] theorem State.deliverReading_ge (s : State) (k : ObsKind) (v : Int) : (s.deliverReading k v).ge = s.ge := by
  cases k <;> simp [State.deliverReading]
@[simp] theorem State.deliverReading_sa (s : State) (k : ObsKind) (v : Int) : (s.deliverReading k v).sa = s.sa := by
  cases k <;> simp [State.deliverReading]
@[simp] theorem State.deliverReading_cs (s : State) (k : ObsKind) (v : Int) : (s.deliverReading k v).cs = s.cs := by
  cases k <;> simp [State.deliverReading]
@[simp] theorem State.deliverReading_cb (s : State) (k : ObsKind) (v : Int) : (s.deliverReading k v).cb = s.cb := by
  cases k <;> simp [State.deliverReading]
@[simp] theorem State.deliverReading_ti (s : State) (k : ObsKind) (v : Int) : (s.deliverReading k v).ti = s.ti := by
  cases k <;> simp [State.deliverReading]
@[simp] theorem State.deliverReading_tg (s : State) (k : ObsKind) (v : Int) : (s.deliverReading k v).tg = s.tg := by
  cases k <;> simp [State.deliverReading]
@[simp] theorem State.deliverReading_pins (s : State) (k : ObsKind) (v : Int) : (s.deliverReading k v).pins = s.pins := by
  cases k <;> simp [State.deliverReading]
@[simp] theorem State.deliverReading_inHand (s : State) (k : ObsKind) (v : Int) : (s.deliverReading k v).inHand = s.inHand := by
  cases k <;> simp [State.deliverReading]
@[simp] theorem State.deliverReading_pending (s : State) (k : ObsKind) (v : Int) : (s.deliverReading k v).pending = s.pending := by
  cases k <;> simp [State.deliverReading]
@[simp] theorem State.deliverReading_li_rxDown (s : State) (k : ObsKind) (v : Int) : (s.deliverReading k v).li.rxDown = s.li.rxDown := by
  cases k <;> simp [State.deliverReading]
@[simp] theorem State.deliverReading_li_rxUp (s : State) (k : ObsKind) (v : Int) : (s.deliverReading k v).li.rxUp = s.li.rxUp := by
  cases k <;> simp [State.deliverReading]
@[simp] theorem State.deliverReading_li_downPath (s : State) (k : ObsKind) (v : Int) : (s.deliverReading k v).li.downPath = s.li.downPath := by
  cases k <;> simp [State.deliverReading]
@[simp] theorem State.deliverReading_li_transit (s : State) (k : ObsKind) (v : Int) : (s.deliverReading k v).li.transit = s.li.transit := by
  cases k <;> simp [State.deliverReading]
@[simp] theorem State.deliverReading_li_outUp (s : State) (k : ObsKind) (v : Int) : (s.deliverReading k v).li.outUp = s.li.outUp := by
  cases k <;> simp [State.deliverReading]
@[simp] theorem State.deliverReading_li_wordUp (s : State) (k : ObsKind) (v : Int) : (s.deliverReading k v).li.wordUp = s.li.wordUp := by
  cases k <;> simp [State.deliverReading]
@[simp] theorem State.deliverReading_li_outDown (s : State) (k : ObsKind) (v : Int) : (s.deliverReading k v).li.outDown = s.li.outDown := by
  cases k <;> simp [State.deliverReading]
@[simp] theorem State.deliverReading_li_wordDown (s : State) (k : ObsKind) (v : Int) : (s.deliverReading k v).li.wordDown = s.li.wordDown := by
  cases k <;> simp [State.deliverReading]
@[simp] theorem State.deliverReading_li_lastServed (s : State) (k : ObsKind) (v : Int) : (s.deliverReading k v).li.lastServed = s.li.lastServed := by
  cases k <;> simp [State.deliverReading]

/-! ### acceptReading -/

@[simp] theorem State.acceptReading_rh (s : State) (k : ObsKind) (v : Int) : (s.acceptReading k v).rh = s.rh := by
  simp only [State.acceptReading]; repeat' split
  all_goals simp
@[simp] theorem State.acceptReading_ge (s : State) (k : ObsKind) (v : Int) : (s.acceptReading k v).ge = s.ge := by
  simp only [State.acceptReading]; repeat' split
  all_goals simp
@[simp] theorem State.acceptReading_sa (s : State) (k : ObsKind) (v : Int) : (s.acceptReading k v).sa = s.sa := by
  simp only [State.acceptReading]; repeat' split
  all_goals simp
@[simp] theorem State.acceptReading_cs (s : State) (k : ObsKind) (v : Int) : (s.acceptReading k v).cs = s.cs := by
  simp only [State.acceptReading]; repeat' split
  all_goals simp
@[simp] theorem State.acceptReading_cb (s : State) (k : ObsKind) (v : Int) : (s.acceptReading k v).cb = s.cb := by
  simp only [State.acceptReading]; repeat' split
  all_goals simp
@[simp] theorem State.acceptReading_tg (s : State) (k : ObsKind) (v : Int) : (s.acceptReading k v).tg = s.tg := by
  simp only [State.acceptReading]; repeat' split
  all_goals simp
@[simp] theorem State.acceptReading_pins (s : State) (k : ObsKind) (v : Int) : (s.acceptReading k v).pins = s.pins := by
  simp only [State.acceptReading]; repeat' split
  all_goals simp
@[simp] theorem State.acceptReading_inHand (s : State) (k : ObsKind) (v : Int) : (s.acceptReading k v).inHand = s.inHand := by
  simp only [State.acceptReading]; repeat' split
  all_goals simp
@[simp] theorem State.acceptReading_pending (s : State) (k : ObsKind) (v : Int) : (s.acceptReading k v).pending = s.pending := by
  simp only [State.acceptReading]; repeat' split
  all_goals simp
@[simp] theorem State.acceptReading_li_rxDown (s : State) (k : ObsKind) (v : Int) : (s.acceptReading k v).li.rxDown = s.li.rxDown := by
  simp only [State.acceptReading]; repeat' split
  all_goals simp
@[simp] theorem State.acceptReading_li_rxUp (s : State) (k : ObsKind) (v : Int) : (s.acceptReading k v).li.rxUp = s.li.rxUp := by
  simp only [State.acceptReading]; repeat' split
  all_goals simp
@[simp] theorem State.acceptReading_li_downPath (s : State) (k : ObsKind) (v : Int) : (s.acceptReading k v).li.downPath = s.li.downPath := by
  simp only [State.acceptReading]; repeat' split
  all_goals simp
@[simp] theorem State.acceptReading_li_transit (s : State) (k : ObsKind) (v : Int) : (s.acceptReading k v).li.transit = s.li.transit := by
  simp only [State.acceptReading]; repeat' split
  all_goals simp
@[simp] theorem State.acceptReading_li_outUp (s : State) (k : ObsKind) (v : Int) : (s.acceptReading k v).li.outUp = s.li.outUp := by
  simp only [State.acceptReading]; repeat' split
  all_goals simp
@[simp] theorem State.acceptReading_li_wordUp (s : State) (k : ObsKind) (v : Int) : (s.acceptReading k v).li.wordUp = s.li.wordUp := by
  simp only [State.acceptReading]; repeat' split
  all_goals simp
@[simp] theorem State.acceptReading_li_outDown (s : State) (k : ObsKind) (v : Int) : (s.acceptReading k v).li.outDown = s.li.outDown := by
  simp only [State.acceptReading]; repeat' split
  all_goals simp
@[simp] theorem State.acceptReading_li_wordDown (s : State) (k : ObsKind) (v : Int) : (s.acceptReading k v).li.wordDown = s.li.wordDown := by
  simp only [State.acceptReading]; repeat' split
  all_goals simp
@[simp] theorem State.acceptReading_li_lastServed (s : State) (k : ObsKind) (v : Int) : (s.acceptReading k v).li.lastServed = s.li.lastServed := by
  simp only [State.acceptReading]; repeat' split
  all_goals simp

/-! ### handleReading -/

@[simp] theorem State.handleReading_rh (s : State) (w : Word) : (s.handleReading w).rh = s.rh := by
  simp only [State.handleReading]; repeat' split
  all_goals simp
@[simp] theorem State.handleReading_ge (s : State) (w : Word) : (s.handleReading w).ge = s.ge := by
  simp only [State.handleReading]; repeat' split
  all_goals simp
@[simp] theorem State.handleReading_sa (s : State) (w : Word) : (s.handleReading w).sa = s.sa := by
  simp only [State.handleReading]; repeat' split
  all_goals simp
@[simp] theorem State.handleReading_cs (s : State) (w : Word) : (s.handleReading w).cs = s.cs := by
  simp only [State.handleReading]; repeat' split
  all_goals simp
@[simp] theorem State.handleReading_cb (s : State) (w : Word) : (s.handleReading w).cb = s.cb := by
  simp only [State.handleReading]; repeat' split
  all_goals simp
@[simp] theorem State.handleReading_tg (s : State) (w : Word) : (s.handleReading w).tg = s.tg := by
  simp only [State.handleReading]; repeat' split
  all_goals simp
@[simp] theorem State.handleReading_pins (s : State) (w : Word) : (s.handleReading w).pins = s.pins := by
  simp only [State.handleReading]; repeat' split
  all_goals simp
@[simp] theorem State.handleReading_inHand (s : State) (w : Word) : (s.handleReading w).inHand = s.inHand := by
  simp only [State.handleReading]; repeat' split
  all_goals simp
@[simp] theorem State.handleReading_pending (s : State) (w : Word) : (s.handleReading w).pending = s.pending := by
  simp only [State.handleReading]; repeat' split
  all_goals simp
@[simp] theorem State.handleReading_li_rxDown (s : State) (w : Word) : (s.handleReading w).li.rxDown = s.li.rxDown := by
  simp only [State.handleReading]; repeat' split
  all_goals simp
@[simp] theorem State.handleReading_li_rxUp (s : State) (w : Word) : (s.handleReading w).li.rxUp = s.li.rxUp := by
  simp only [State.handleReading]; repeat' split
  all_goals simp
@[simp] theorem State.handleReading_li_downPath (s : State) (w : Word) : (s.handleReading w).li.downPath = s.li.downPath := by
  simp only [State.handleReading]; repeat' split
  all_goals simp
@[simp] theorem State.handleReading_li_transit (s : State) (w : Word) : (s.handleReading w).li.transit = s.li.transit := by
  simp only [State.handleReading]; repeat' split
  all_goals simp
@[simp] theorem State.handleReading_li_outUp (s : State) (w : Word) : (s.handleReading w).li.outUp = s.li.outUp := by
  simp only [State.handleReading]; repeat' split
  all_goals simp
@[simp] theorem State.handleReading_li_wordUp (s : State) (w : Word) : (s.handleReading w).li.wordUp = s.li.wordUp := by
  simp only [State.handleReading]; repeat' split
  all_goals simp
@[simp] theorem State.handleReading_li_outDown (s : State) (w : Word) : (s.handleReading w).li.outDown = s.li.outDown := by
  simp only [State.handleReading]; repeat' split
  all_goals simp
@[simp] theorem State.handleReading_li_wordDown (s : State) (w : Word) : (s.handleReading w).li.wordDown = s.li.wordDown := by
  simp only [State.handleReading]; repeat' split
  all_goals simp
@[simp] theorem State.handleReading_li_lastServed (s : State) (w : Word) : (s.handleReading w).li.lastServed = s.li.lastServed := by
  simp only [State.handleReading]; repeat' split
  all_goals simp

/-! ### handleReadings -/

@[simp] theorem State.handleReadings_rh (s : State) (ws : List Word) : (State.handleReadings ws s).rh = s.rh := by
  induction ws generalizing s with
  | nil => rfl
  | cons w ws ih => simp [State.handleReadings, ih]
@[simp] theorem State.handleReadings_ge (s : State) (ws : List Word) : (State.handleReadings ws s).ge = s.ge := by
  induction ws generalizing s with
  | nil => rfl
  | cons w ws ih => simp [State.handleReadings, ih]
@[simp] theorem State.handleReadings_sa (s : State) (ws : List Word) : (State.handleReadings ws s).sa = s.sa := by
  induction ws generalizing s with
  | nil => rfl
  | cons w ws ih => simp [State.handleReadings, ih]
@[simp] theorem State.handleReadings_cs (s : State) (ws : List Word) : (State.handleReadings ws s).cs = s.cs := by
  induction ws generalizing s with
  | nil => rfl
  | cons w ws ih => simp [State.handleReadings, ih]
@[simp] theorem State.handleReadings_cb (s : State) (ws : List Word) : (State.handleReadings ws s).cb = s.cb := by
  induction ws generalizing s with
  | nil => rfl
  | cons w ws ih => simp [State.handleReadings, ih]
@[simp] theorem State.handleReadings_tg (s : State) (ws : List Word) : (State.handleReadings ws s).tg = s.tg := by
  induction ws generalizing s with
  | nil => rfl
  | cons w ws ih => simp [State.handleReadings, ih]
@[simp] theorem State.handleReadings_pins (s : State) (ws : List Word) : (State.handleReadings ws s).pins = s.pins := by
  induction ws generalizing s with
  | nil => rfl
  | cons w ws ih => simp [State.handleReadings, ih]
@[simp] theorem State.handleReadings_inHand (s : State) (ws : List Word) : (State.handleReadings ws s).inHand = s.inHand := by
  induction ws generalizing s with
  | nil => rfl
  | cons w ws ih => simp [State.handleReadings, ih]
@[simp] theorem State.handleReadings_pending (s : State) (ws : List Word) : (State.handleReadings ws s).pending = s.pending := by
  induction ws generalizing s with
  | nil => rfl
  | cons w ws ih => simp [State.handleReadings, ih]
@[simp] theorem State.handleReadings_li_rxDown (s : State) (ws : List Word) : (State.handleReadings ws s).li.rxDown = s.li.rxDown := by
  induction ws generalizing s with
  | nil => rfl
  | cons w ws ih => simp [State.handleReadings, ih]
@[simp] theorem State.handleReadings_li_rxUp (s : State) (ws : List Word) : (State.handleReadings ws s).li.rxUp = s.li.rxUp := by
  induction ws generalizing s with
  | nil => rfl
  | cons w ws ih => simp [State.handleReadings, ih]
@[simp] theorem State.handleReadings_li_downPath (s : State) (ws : List Word) : (State.handleReadings ws s).li.downPath = s.li.downPath := by
  induction ws generalizing s with
  | nil => rfl
  | cons w ws ih => simp [State.handleReadings, ih]
@[simp] theorem State.handleReadings_li_transit (s : State) (ws : List Word) : (State.handleReadings ws s).li.transit = s.li.transit := by
  induction ws generalizing s with
  | nil => rfl
  | cons w ws ih => simp [State.handleReadings, ih]
@[simp] theorem State.handleReadings_li_outUp (s : State) (ws : List Word) : (State.handleReadings ws s).li.outUp = s.li.outUp := by
  induction ws generalizing s with
  | nil => rfl
  | cons w ws ih => simp [State.handleReadings, ih]
@[simp] theorem State.handleReadings_li_wordUp (s : State) (ws : List Word) : (State.handleReadings ws s).li.wordUp = s.li.wordUp := by
  induction ws generalizing s with
  | nil => rfl
  | cons w ws ih => simp [State.handleReadings, ih]
@[simp] theorem State.handleReadings_li_outDown (s : State) (ws : List Word) : (State.handleReadings ws s).li.outDown = s.li.outDown := by
  induction ws generalizing s with
  | nil => rfl
  | cons w ws ih => simp [State.handleReadings, ih]
@[simp] theorem State.handleReadings_li_wordDown (s : State) (ws : List Word) : (State.handleReadings ws s).li.wordDown = s.li.wordDown := by
  induction ws generalizing s with
  | nil => rfl
  | cons w ws ih => simp [State.handleReadings, ih]
@[simp] theorem State.handleReadings_li_lastServed (s : State) (ws : List Word) : (State.handleReadings ws s).li.lastServed = s.li.lastServed := by
  induction ws generalizing s with
  | nil => rfl
  | cons w ws ih => simp [State.handleReadings, ih]

/-! ### ageKind -/

@[simp] theorem State.ageKind_rh (s : State) (k : ObsKind) : (s.ageKind k).rh = s.rh := by
  simp only [State.ageKind]; repeat' split
  all_goals simp
@[simp] theorem State.ageKind_ge (s : State) (k : ObsKind) : (s.ageKind k).ge = s.ge := by
  simp only [State.ageKind]; repeat' split
  all_goals simp
@[simp] theorem State.ageKind_te (s : State) (k : ObsKind) : (s.ageKind k).te = s.te := by
  simp only [State.ageKind]; repeat' split
  all_goals simp
@[simp] theorem State.ageKind_ms (s : State) (k : ObsKind) : (s.ageKind k).ms = s.ms := by
  simp only [State.ageKind]; repeat' split
  all_goals simp
@[simp] theorem State.ageKind_sa (s : State) (k : ObsKind) : (s.ageKind k).sa = s.sa := by
  simp only [State.ageKind]; repeat' split
  all_goals simp
@[simp] theorem State.ageKind_cs (s : State) (k : ObsKind) : (s.ageKind k).cs = s.cs := by
  simp only [State.ageKind]; repeat' split
  all_goals simp
@[simp] theorem State.ageKind_cb (s : State) (k : ObsKind) : (s.ageKind k).cb = s.cb := by
  simp only [State.ageKind]; repeat' split
  all_goals simp
@[simp] theorem State.ageKind_tg (s : State) (k : ObsKind) : (s.ageKind k).tg = s.tg := by
  simp only [State.ageKind]; repeat' split
  all_goals simp
@[simp] theorem State.ageKind_pins (s : State) (k : ObsKind) : (s.ageKind k).pins = s.pins := by
  simp only [State.ageKind]; repeat' split
  all_goals simp
@[simp] theorem State.ageKind_inHand (s : State) (k : ObsKind) : (s.ageKind k).inHand = s.inHand := by
  simp only [State.ageKind]; repeat' split
  all_goals simp
@[simp] theorem State.ageKind_pending (s : State) (k : ObsKind) : (s.ageKind k).pending = s.pending := by
  simp only [State.ageKind]; repeat' split
  all_goals simp
@[simp] theorem State.ageKind_li_rxDown (s : State) (k : ObsKind) : (s.ageKind k).li.rxDown = s.li.rxDown := by
  simp only [State.ageKind]; repeat' split
  all_goals simp
@[simp] theorem State.ageKind_li_rxUp (s : State) (k : ObsKind) : (s.ageKind k).li.rxUp = s.li.rxUp := by
  simp only [State.ageKind]; repeat' split
  all_goals simp
@[simp] theorem State.ageKind_li_downPath (s : State) (k : ObsKind) : (s.ageKind k).li.downPath = s.li.downPath := by
  simp only [State.ageKind]; repeat' split
  all_goals simp
@[simp] theorem State.ageKind_li_transit (s : State) (k : ObsKind) : (s.ageKind k).li.transit = s.li.transit := by
  simp only [State.ageKind]; repeat' split
  all_goals simp
@[simp] theorem State.ageKind_li_outUp (s : State) (k : ObsKind) : (s.ageKind k).li.outUp = s.li.outUp := by
  simp only [State.ageKind]; repeat' split
  all_goals simp
@[simp] theorem State.ageKind_li_wordUp (s : State) (k : ObsKind) : (s.ageKind k).li.wordUp = s.li.wordUp := by
  simp only [State.ageKind]; repeat' split
  all_goals simp
@[simp] theorem State.ageKind_li_outDown (s : State) (k : ObsKind) : (s.ageKind k).li.outDown = s.li.outDown := by
  simp only [State.ageKind]; repeat' split
  all_goals simp
@[simp] theorem State.ageKind_li_wordDown (s : State) (k : ObsKind) : (s.ageKind k).li.wordDown = s.li.wordDown := by
  simp only [State.ageKind]; repeat' split
  all_goals simp
@[simp] theorem State.ageKind_li_lastServed (s : State) (k : ObsKind) : (s.ageKind k).li.lastServed = s.li.lastServed := by
  simp only [State.ageKind]; repeat' split
  all_goals simp

/-! ### ageKinds -/

@[simp] theorem State.ageKinds_rh (s : State) (ks : List ObsKind) : (State.ageKinds ks s).rh = s.rh := by
  induction ks generalizing s with
  | nil => rfl
  | cons k ks ih => simp [State.ageKinds, ih]
@[simp] theorem State.ageKinds_ge (s : State) (ks : List ObsKind) : (State.ageKinds ks s).ge = s.ge := by
  induction ks generalizing s with
  | nil => rfl
  | cons k ks ih => simp [State.ageKinds, ih]
@[simp] theorem State.ageKinds_te (s : State) (ks : List ObsKind) : (State.ageKinds ks s).te = s.te := by
  induction ks generalizing s with
  | nil => rfl
  | cons k ks ih => simp [State.ageKinds, ih]
@[simp] theorem State.ageKinds_ms (s : State) (ks : List ObsKind) : (State.ageKinds ks s).ms = s.ms := by
  induction ks generalizing s with
  | nil => rfl
  | cons k ks ih => simp [State.ageKinds, ih]
@[simp] theorem State.ageKinds_sa (s : State) (ks : List ObsKind) : (State.ageKinds ks s).sa = s.sa := by
  induction ks generalizing s with
  | nil => rfl
  | cons k ks ih => simp [State.ageKinds, ih]
@[simp] theorem State.ageKinds_cs (s : State) (ks : List ObsKind) : (State.ageKinds ks s).cs = s.cs := by
  induction ks generalizing s with
  | nil => rfl
  | cons k ks ih => simp [State.ageKinds, ih]
@[simp] theorem State.ageKinds_cb (s : State) (ks : List ObsKind) : (State.ageKinds ks s).cb = s.cb := by
  induction ks generalizing s with
  | nil => rfl
  | cons k ks ih => simp [State.ageKinds, ih]
@[simp] theorem State.ageKinds_tg (s : State) (ks : List ObsKind) : (State.ageKinds ks s).tg = s.tg := by
  induction ks generalizing s with
  | nil => rfl
  | cons k ks ih => simp [State.ageKinds, ih]
@[simp] theorem State.ageKinds_pins (s : State) (ks : List ObsKind) : (State.ageKinds ks s).pins = s.pins := by
  induction ks generalizing s with
  | nil => rfl
  | cons k ks ih => simp [State.ageKinds, ih]
@[simp] theorem State.ageKinds_inHand (s : State) (ks : List ObsKind) : (State.ageKinds ks s).inHand = s.inHand := by
  induction ks generalizing s with
  | nil => rfl
  | cons k ks ih => simp [State.ageKinds, ih]
@[simp] theorem State.ageKinds_pending (s : State) (ks : List ObsKind) : (State.ageKinds ks s).pending = s.pending := by
  induction ks generalizing s with
  | nil => rfl
  | cons k ks ih => simp [State.ageKinds, ih]
@[simp] theorem State.ageKinds_li_rxDown (s : State) (ks : List ObsKind) : (State.ageKinds ks s).li.rxDown = s.li.rxDown := by
  induction ks generalizing s with
  | nil => rfl
  | cons k ks ih => simp [State.ageKinds, ih]
@[simp] theorem State.ageKinds_li_rxUp (s : State) (ks : List ObsKind) : (State.ageKinds ks s).li.rxUp = s.li.rxUp := by
  induction ks generalizing s with
  | nil => rfl
  | cons k ks ih => simp [State.ageKinds, ih]
@[simp] theorem State.ageKinds_li_downPath (s : State) (ks : List ObsKind) : (State.ageKinds ks s).li.downPath = s.li.downPath := by
  induction ks generalizing s with
  | nil => rfl
  | cons k ks ih => simp [State.ageKinds, ih]
@[simp] theorem State.ageKinds_li_transit (s : State) (ks : List ObsKind) : (State.ageKinds ks s).li.transit = s.li.transit := by
  induction ks generalizing s with
  | nil => rfl
  | cons k ks ih => simp [State.ageKinds, ih]
@[simp] theorem State.ageKinds_li_outUp (s : State) (ks : List ObsKind) : (State.ageKinds ks s).li.outUp = s.li.outUp := by
  induction ks generalizing s with
  | nil => rfl
  | cons k ks ih => simp [State.ageKinds, ih]
@[simp] theorem State.ageKinds_li_wordUp (s : State) (ks : List ObsKind) : (State.ageKinds ks s).li.wordUp = s.li.wordUp := by
  induction ks generalizing s with
  | nil => rfl
  | cons k ks ih => simp [State.ageKinds, ih]
@[simp] theorem State.ageKinds_li_outDown (s : State) (ks : List ObsKind) : (State.ageKinds ks s).li.outDown = s.li.outDown := by
  induction ks generalizing s with
  | nil => rfl
  | cons k ks ih => simp [State.ageKinds, ih]
@[simp] theorem State.ageKinds_li_wordDown (s : State) (ks : List ObsKind) : (State.ageKinds ks s).li.wordDown = s.li.wordDown := by
  induction ks generalizing s with
  | nil => rfl
  | cons k ks ih => simp [State.ageKinds, ih]
@[simp] theorem State.ageKinds_li_lastServed (s : State) (ks : List ObsKind) : (State.ageKinds ks s).li.lastServed = s.li.lastServed := by
  induction ks generalizing s with
  | nil => rfl
  | cons k ks ih => simp [State.ageKinds, ih]

/-! ### tickChain -/

@[simp] theorem State.tickChain_rh (s : State) (c : Chain) : (s.tickChain c).rh = s.rh := by
  simp only [State.tickChain]; repeat' split
  all_goals simp
@[simp] theorem State.tickChain_ge (s : State) (c : Chain) : (s.tickChain c).ge = s.ge := by
  simp only [State.tickChain]; repeat' split
  all_goals simp
@[simp] theorem State.tickChain_te (s : State) (c : Chain) : (s.tickChain c).te = s.te := by
  simp only [State.tickChain]; repeat' split
  all_goals simp
@[simp] theorem State.tickChain_sa (s : State) (c : Chain) : (s.tickChain c).sa = s.sa := by
  simp only [State.tickChain]; repeat' split
  all_goals simp
@[simp] theorem State.tickChain_cs (s : State) (c : Chain) : (s.tickChain c).cs = s.cs := by
  simp only [State.tickChain]; repeat' split
  all_goals simp
@[simp] theorem State.tickChain_cb (s : State) (c : Chain) : (s.tickChain c).cb = s.cb := by
  simp only [State.tickChain]; repeat' split
  all_goals simp
@[simp] theorem State.tickChain_ti (s : State) (c : Chain) : (s.tickChain c).ti = s.ti := by
  simp only [State.tickChain]; repeat' split
  all_goals simp
@[simp] theorem State.tickChain_tg (s : State) (c : Chain) : (s.tickChain c).tg = s.tg := by
  simp only [State.tickChain]; repeat' split
  all_goals simp
@[simp] theorem State.tickChain_pins (s : State) (c : Chain) : (s.tickChain c).pins = s.pins := by
  simp only [State.tickChain]; repeat' split
  all_goals simp
@[simp] theorem State.tickChain_inHand (s : State) (c : Chain) : (s.tickChain c).inHand = s.inHand := by
  simp only [State.tickChain]; repeat' split
  all_goals simp
@[simp] theorem State.tickChain_pending (s : State) (c : Chain) : (s.tickChain c).pending = s.pending := by
  simp only [State.tickChain]; repeat' split
  all_goals simp
@[simp] theorem State.tickChain_li_rxDown (s : State) (c : Chain) : (s.tickChain c).li.rxDown = s.li.rxDown := by
  simp only [State.tickChain]; repeat' split
  all_goals simp
@[simp] theorem State.tickChain_li_rxUp (s : State) (c : Chain) : (s.tickChain c).li.rxUp = s.li.rxUp := by
  simp only [State.tickChain]; repeat' split
  all_goals simp
@[simp] theorem State.tickChain_li_downPath (s : State) (c : Chain) : (s.tickChain c).li.downPath = s.li.downPath := by
  simp only [State.tickChain]; repeat' split
  all_goals simp
@[simp] theorem State.tickChain_li_transit (s : State) (c : Chain) : (s.tickChain c).li.transit = s.li.transit := by
  simp only [State.tickChain]; repeat' split
  all_goals simp
@[simp] theorem State.tickChain_li_outUp (s : State) (c : Chain) : (s.tickChain c).li.outUp = s.li.outUp := by
  simp only [State.tickChain]; repeat' split
  all_goals simp
@[simp] theorem State.tickChain_li_wordUp (s : State) (c : Chain) : (s.tickChain c).li.wordUp = s.li.wordUp := by
  simp only [State.tickChain]; repeat' split
  all_goals simp
@[simp] theorem State.tickChain_li_outDown (s : State) (c : Chain) : (s.tickChain c).li.outDown = s.li.outDown := by
  simp only [State.tickChain]; repeat' split
  all_goals simp
@[simp] theorem State.tickChain_li_wordDown (s : State) (c : Chain) : (s.tickChain c).li.wordDown = s.li.wordDown := by
  simp only [State.tickChain]; repeat' split
  all_goals simp
@[simp] theorem State.tickChain_li_lastServed (s : State) (c : Chain) : (s.tickChain c).li.lastServed = s.li.lastServed := by
  simp only [State.tickChain]; repeat' split
  all_goals simp

/-! ### tickMs -/

@[simp] theorem State.tickMs_rh (s : State) : (s.tickMs).rh = s.rh := by
  simp [State.tickMs]
@[simp] theorem State.tickMs_ge (s : State) : (s.tickMs).ge = s.ge := by
  simp [State.tickMs]
@[simp] theorem State.tickMs_te (s : State) : (s.tickMs).te = s.te := by
  simp [State.tickMs]
@[simp] theorem State.tickMs_sa (s : State) : (s.tickMs).sa = s.sa := by
  simp [State.tickMs]
@[simp] theorem State.tickMs_cs (s : State) : (s.tickMs).cs = s.cs := by
  simp [State.tickMs]
@[simp] theorem State.tickMs_cb (s : State) : (s.tickMs).cb = s.cb := by
  simp [State.tickMs]
@[simp] theorem State.tickMs_ti (s : State) : (s.tickMs).ti = s.ti := by
  simp [State.tickMs]
@[simp] theorem State.tickMs_tg (s : State) : (s.tickMs).tg = s.tg := by
  simp [State.tickMs]
@[simp] theorem State.tickMs_pins (s : State) : (s.tickMs).pins = s.pins := by
  simp [State.tickMs]
@[simp] theorem State.tickMs_inHand (s : State) : (s.tickMs).inHand = s.inHand := by
  simp [State.tickMs]
@[simp] theorem State.tickMs_pending (s : State) : (s.tickMs).pending = s.pending := by
  simp [State.tickMs]
@[simp] theorem State.tickMs_li_rxDown (s : State) : (s.tickMs).li.rxDown = s.li.rxDown := by
  simp [State.tickMs]
@[simp] theorem State.tickMs_li_rxUp (s : State) : (s.tickMs).li.rxUp = s.li.rxUp := by
  simp [State.tickMs]
@[simp] theorem State.tickMs_li_downPath (s : State) : (s.tickMs).li.downPath = s.li.downPath := by
  simp [State.tickMs]
@[simp] theorem State.tickMs_li_transit (s : State) : (s.tickMs).li.transit = s.li.transit := by
  simp [State.tickMs]
@[simp] theorem State.tickMs_li_outUp (s : State) : (s.tickMs).li.outUp = s.li.outUp := by
  simp [State.tickMs]
@[simp] theorem State.tickMs_li_wordUp (s : State) : (s.tickMs).li.wordUp = s.li.wordUp := by
  simp [State.tickMs]
@[simp] theorem State.tickMs_li_outDown (s : State) : (s.tickMs).li.outDown = s.li.outDown := by
  simp [State.tickMs]
@[simp] theorem State.tickMs_li_wordDown (s : State) : (s.tickMs).li.wordDown = s.li.wordDown := by
  simp [State.tickMs]
@[simp] theorem State.tickMs_li_lastServed (s : State) : (s.tickMs).li.lastServed = s.li.lastServed := by
  simp [State.tickMs]

/-! ### tickSa -/

@[simp] theorem State.tickSa_rh (s : State) : (s.tickSa).rh = s.rh := by
  simp only [State.tickSa]; repeat' split
  all_goals simp
@[simp] theorem State.tickSa_ge (s : State) : (s.tickSa).ge = s.ge := by
  simp only [State.tickSa]; repeat' split
  all_goals simp
@[simp] theorem State.tickSa_te (s : State) : (s.tickSa).te = s.te := by
  simp only [State.tickSa]; repeat' split
  all_goals simp
@[simp] theorem State.tickSa_ms (s : State) : (s.tickSa).ms = s.ms := by
  simp only [State.tickSa]; repeat' split
  all_goals simp
@[simp] theorem State.tickSa_cs (s : State) : (s.tickSa).cs = s.cs := by
  simp only [State.tickSa]; repeat' split
  all_goals simp
@[simp] theorem State.tickSa_cb (s : State) : (s.tickSa).cb = s.cb := by
  simp only [State.tickSa]; repeat' split
  all_goals simp
@[simp] theorem State.tickSa_ti (s : State) : (s.tickSa).ti = s.ti := by
  simp only [State.tickSa]; repeat' split
  all_goals simp
@[simp] theorem State.tickSa_tg (s : State) : (s.tickSa).tg = s.tg := by
  simp only [State.tickSa]; repeat' split
  all_goals simp
@[simp] theorem State.tickSa_pins (s : State) : (s.tickSa).pins = s.pins := by
  simp only [State.tickSa]; repeat' split
  all_goals simp
@[simp] theorem State.tickSa_inHand (s : State) : (s.tickSa).inHand = s.inHand := by
  simp only [State.tickSa]; repeat' split
  all_goals simp
@[simp] theorem State.tickSa_pending (s : State) : (s.tickSa).pending = s.pending := by
  simp only [State.tickSa]; repeat' split
  all_goals simp
@[simp] theorem State.tickSa_li_rxDown (s : State) : (s.tickSa).li.rxDown = s.li.rxDown := by
  simp only [State.tickSa]; repeat' split
  all_goals simp
@[simp] theorem State.tickSa_li_rxUp (s : State) : (s.tickSa).li.rxUp = s.li.rxUp := by
  simp only [State.tickSa]; repeat' split
  all_goals simp
@[simp] theorem State.tickSa_li_downPath (s : State) : (s.tickSa).li.downPath = s.li.downPath := by
  simp only [State.tickSa]; repeat' split
  all_goals simp
@[simp] theorem State.tickSa_li_transit (s : State) : (s.tickSa).li.transit = s.li.transit := by
  simp only [State.tickSa]; repeat' split
  all_goals simp
@[simp] theorem State.tickSa_li_outUp (s : State) : (s.tickSa).li.outUp = s.li.outUp := by
  simp only [State.tickSa]; repeat' split
  all_goals simp
@[simp] theorem State.tickSa_li_wordUp (s : State) : (s.tickSa).li.wordUp = s.li.wordUp := by
  simp only [State.tickSa]; repeat' split
  all_goals simp
@[simp] theorem State.tickSa_li_outDown (s : State) : (s.tickSa).li.outDown = s.li.outDown := by
  simp only [State.tickSa]; repeat' split
  all_goals simp
@[simp] theorem State.tickSa_li_wordDown (s : State) : (s.tickSa).li.wordDown = s.li.wordDown := by
  simp only [State.tickSa]; repeat' split
  all_goals simp
@[simp] theorem State.tickSa_li_lastServed (s : State) : (s.tickSa).li.lastServed = s.li.lastServed := by
  simp only [State.tickSa]; repeat' split
  all_goals simp

/-! ### tickGe -/

@[simp] theorem State.tickGe_rh (s : State) : (s.tickGe).rh = s.rh := by
  simp only [State.tickGe]; repeat' split
  all_goals simp
@[simp] theorem State.tickGe_te (s : State) : (s.tickGe).te = s.te := by
  simp only [State.tickGe]; repeat' split
  all_goals simp
@[simp] theorem State.tickGe_sa (s : State) : (s.tickGe).sa = s.sa := by
  simp only [State.tickGe]; repeat' split
  all_goals simp
@[simp] theorem State.tickGe_cs (s : State) : (s.tickGe).cs = s.cs := by
  simp only [State.tickGe]; repeat' split
  all_goals simp
@[simp] theorem State.tickGe_ti (s : State) : (s.tickGe).ti = s.ti := by
  simp only [State.tickGe]; repeat' split
  all_goals simp
@[simp] theorem State.tickGe_tg (s : State) : (s.tickGe).tg = s.tg := by
  simp only [State.tickGe]; repeat' split
  all_goals simp
@[simp] theorem State.tickGe_pins (s : State) : (s.tickGe).pins = s.pins := by
  simp only [State.tickGe]; repeat' split
  all_goals simp
@[simp] theorem State.tickGe_inHand (s : State) :
    (s.tickGe).inHand = { s.inHand with tick := { s.inHand.tick with ordered := false } } := by
  simp only [State.tickGe]; repeat' split
  all_goals simp
@[simp] theorem State.tickGe_pending (s : State) : (s.tickGe).pending = s.pending := by
  simp only [State.tickGe]; repeat' split
  all_goals simp
@[simp] theorem State.tickGe_li_rxDown (s : State) : (s.tickGe).li.rxDown = s.li.rxDown := by
  simp only [State.tickGe]; repeat' split
  all_goals simp
@[simp] theorem State.tickGe_li_rxUp (s : State) : (s.tickGe).li.rxUp = s.li.rxUp := by
  simp only [State.tickGe]; repeat' split
  all_goals simp
@[simp] theorem State.tickGe_li_downPath (s : State) : (s.tickGe).li.downPath = s.li.downPath := by
  simp only [State.tickGe]; repeat' split
  all_goals simp
@[simp] theorem State.tickGe_li_transit (s : State) : (s.tickGe).li.transit = s.li.transit := by
  simp only [State.tickGe]; repeat' split
  all_goals simp
@[simp] theorem State.tickGe_li_outUp (s : State) : (s.tickGe).li.outUp = s.li.outUp := by
  simp only [State.tickGe]; repeat' split
  all_goals simp
@[simp] theorem State.tickGe_li_wordUp (s : State) : (s.tickGe).li.wordUp = s.li.wordUp := by
  simp only [State.tickGe]; repeat' split
  all_goals simp
@[simp] theorem State.tickGe_li_outDown (s : State) : (s.tickGe).li.outDown = s.li.outDown := by
  simp only [State.tickGe]; repeat' split
  all_goals simp
@[simp] theorem State.tickGe_li_wordDown (s : State) : (s.tickGe).li.wordDown = s.li.wordDown := by
  simp only [State.tickGe]; repeat' split
  all_goals simp
@[simp] theorem State.tickGe_li_lastServed (s : State) : (s.tickGe).li.lastServed = s.li.lastServed := by
  simp only [State.tickGe]; repeat' split
  all_goals simp

end Sys2Proof.Machine
end

