-- ==== Sys2Proof/Laws/Events.lean ====
section
/-! SUPPORT. What each shared operation can do to the fields it writes: the insert queue under a raise, the log under an
append, a zone under an evaluation, a frame and a request when they are taken. -/

namespace Sys2Proof.Machine

/-! ### The insert queue under a raise (R161, R162, R169) -/

/-- The ways in which NU may leave the insert queue: as it was, with classes merged into its NOTICE, or, with no NOTICE
waiting and 0 to 2 frames, with one NOTICE more. -/
def NoticeStep (before after : List GovFrame) : Prop :=
  after = before ∨ (∃ d, after = before.map (mergeInto d))
    ∨ (∃ d, before.any GovFrame.isNotice = false ∧ before.length ≤ 2 ∧ after = before ++ [.notice d])

theorem State.noticeTest_insert (s : State) : NoticeStep s.li.insert s.noticeTest.li.insert := by
  unfold State.noticeTest NoticeStep
  split
  · exact .inl rfl
  · split
    · exact .inr (.inl ⟨_, rfl⟩)
    · rename_i h
      split
      · rename_i hp
        exact .inr (.inr ⟨_, by simpa [State.noticeWaits] using h, by simpa [State.notePlace] using hp, rfl⟩)
      · exact .inl rfl

theorem State.noticeCall_insert (s : State) : NoticeStep s.li.insert s.noticeCall.li.insert := by
  unfold State.noticeCall NoticeStep
  split
  · exact .inr (.inl ⟨_, rfl⟩)
  · rename_i h
    split
    · rename_i hp
      exact .inr (.inr ⟨_, by simpa [State.noticeWaits] using h, by simpa [State.notePlace] using hp, rfl⟩)
    · exact .inl rfl

theorem State.raise_insert (s : State) (c : NoticeClass) : NoticeStep s.li.insert (s.raise c).li.insert := by
  unfold State.raise
  split
  · split
    · exact .inl rfl
    · split
      · simpa using State.noticeCall_insert (s.withNu { s.nu with pending := s.nu.pending ||| c.bit })
      · exact .inl rfl
  · simpa using State.noticeTest_insert (s.withNu { s.nu with pending := s.nu.pending ||| c.bit })

theorem State.noticeDeparture_insert (s : State) : NoticeStep s.li.insert s.noticeDeparture.li.insert := by
  unfold State.noticeDeparture
  split
  · split
    · exact .inl rfl
    · split
      · exact .inr (.inl ⟨_, rfl⟩)
      · rename_i h
        split
        · rename_i hp
          split
          · exact .inl rfl
          · exact .inr (.inr ⟨_, by simpa [State.noticeWaits] using h, by simpa [State.notePlace] using hp, rfl⟩)
        · exact .inl rfl
  · exact State.noticeTest_insert s

@[simp] theorem mergeInto_isNotice (d : ClassSet) (f : GovFrame) : (mergeInto d f).isNotice = f.isNotice := by
  cases f <;> rfl

@[simp] theorem mergeInto_isResponse (d : ClassSet) (f : GovFrame) : (mergeInto d f).isResponse = f.isResponse := by
  cases f <;> rfl

/-! ### The log under an append (R155) -/

theorem recordsLength_append (a b : List Record) : recordsLength (a ++ b) = recordsLength a + recordsLength b := by
  simp [recordsLength]

/-- What remains after the oldest records are dropped is an end of the store, and the new record fits. -/
theorem dropOldest_spec (len : Nat) (hlen : len ≤ 512) (rs : List Record) :
    (∃ gone, rs = gone ++ (dropOldest len rs).1 ∧ gone.length = (dropOldest len rs).2)
      ∧ recordsLength (dropOldest len rs).1 + len ≤ 512 := by
  induction rs with
  | nil => exact ⟨⟨[], rfl, rfl⟩, by simpa [dropOldest, recordsLength] using hlen⟩
  | cons r rs ih =>
    unfold dropOldest
    split
    · rename_i h
      exact ⟨⟨[], rfl, rfl⟩, h⟩
    · obtain ⟨⟨gone, h1, h2⟩, h3⟩ := ih
      refine ⟨⟨r :: gone, ?_, by simp [h2]⟩, h3⟩
      simpa using h1

/-- The log after a record has been handed over is the append of R155; the classes raised do not reach it. -/
@[simp] theorem State.record_ol (s : State) (r : Record) :
    (s.record r).ol = (s.ol.append (s.param .logMode == 1) s.stamp r).log := by
  simp only [State.record]
  repeat' split
  all_goals simp

/-- Dropping the oldest records reaches none of the last ones, where those and the new record fit. -/
theorem dropOldest_keeps (len : Nat) (new old : List Record) (h : recordsLength new + len ≤ 512) :
    ∃ kept, kept <:+ old ∧ (dropOldest len (old ++ new)).1 = kept ++ new := by
  induction old with
  | nil =>
    refine ⟨[], List.suffix_rfl, ?_⟩
    cases new with
    | nil => rfl
    | cons r rs => simp only [List.nil_append, dropOldest, if_pos h]
  | cons x xs ih =>
    obtain ⟨kept, h1, h2⟩ := ih
    simp only [List.cons_append, dropOldest]
    split
    · exact ⟨x :: xs, List.suffix_rfl, rfl⟩
    · exact ⟨kept, h1.trans (List.suffix_cons x xs), h2⟩

/-- A record handed to a log in OVERWRITE whose fill is that of its records: it stands last, the last records before it
stand where they fit with it, and of the older ones an end stands (R155). -/
theorem State.record_keeps (s : State) (r : Record) (old new : List Record) (hm : s.param .logMode = 1)
    (hf : s.ol.fill = recordsLength s.ol.store) (hs : s.ol.store = old ++ new) (h : recordsLength new + r.length ≤ 512) :
    ∃ kept, kept <:+ old ∧ (s.record r).ol.store = kept ++ new ++ [r]
      ∧ (s.record r).ol.fill = recordsLength (s.record r).ol.store := by
  simp only [State.record_ol, hm, beq_self_eq_true, ObservationLog.append]
  split
  · exact ⟨old, List.suffix_rfl, by simp [hs], by simp [hf, recordsLength]⟩
  · obtain ⟨kept, h1, h2⟩ := dropOldest_keeps r.length new old h
    rw [← hs] at h2
    exact ⟨kept, h1, by simp [h2], by simp [recordsLength]⟩

@[simp] theorem State.linkFault_ol (s : State) (e : LinkError) :
    (s.linkFault e).ol = (s.ol.append (s.param .logMode == 1) s.stamp (.link e s.stamp)).log := by
  simp [State.linkFault]

/-! ### A zone under an evaluation (R43, R44) -/

@[simp] theorem State.evalZone_te (s : State) (m : Module) :
    (s.evalZone m).te = s.te.set m { s.te.get m with
      zone := nextZone (s.thetaEst m) (s.param .warm) (s.param .hot) (s.param .critical) (s.param .zoneHysteresis)
        (s.te.get m).zone } := by
  simp only [State.evalZone]
  split
  · rename_i h
    rw [h]
    cases m <;> rfl
  · simp

/-! ### The charge state under an evaluation (R82) -/

@[simp] theorem State.evalCharge_sa (s : State) :
    s.evalCharge.sa = { s.sa with charge := nextCharge s.sa.windowSum (s.param .chargeAllowance) s.sa.charge } := by
  simp only [State.evalCharge]
  split
  · rename_i h
    rw [h]
  · simp

/-! ### A change of a mismatch state (R65) -/

@[simp] theorem State.changeMismatch_ms (s : State) (c : Chain) (n : MismatchState) :
    (s.changeMismatch c n).ms = s.ms.set c.val ((s.ms.get c).changed n (s.paramNat .parkTicks)) c.isLt := by
  simp only [State.changeMismatch, State.raise_ms, State.record_ms]
  rfl

/-! ### Frames and requests (R165, R167, R173) -/

theorem State.onFrame_taken (s : State) (st : Stream) (f : Frame) (handle : State → State) (h : s.receives st f = true) :
    s.onFrame st f handle = handle (s.setRx st .seeking) := by
  simp [State.onFrame, h]

theorem State.onFrame_lost (s : State) (st : Stream) (f : Frame) (handle : State → State) (h : s.receives st f = false) :
    s.onFrame st f handle = s := by
  simp [State.onFrame, h]

theorem State.request_taken (s : State) (tag : BitVec 4) (code : Nat) (low : BitVec 10) (args : List Word)
    (effect : State → State × Reply) (hq : s.li.insert.length ≤ 3) (hf : formGood code low = true)
    (hl : lengthGood code args = true) :
    s.request tag code low args effect = (effect s).1.respond tag code (effect s).2 := by
  have h : ¬ 4 ≤ s.li.insert.length := by omega
  simp [State.request, h, hf, hl]

theorem State.request_dropped (s : State) (tag : BitVec 4) (code : Nat) (low : BitVec 10) (args : List Word)
    (effect : State → State × Reply) (hq : 4 ≤ s.li.insert.length) :
    s.request tag code low args effect = s.linkFault .droppedRequest := by
  simp [State.request, hq]

/-! ### The tick work of a block (R151) -/

theorem State.takeWork_owed (s : State) (b : TickBlock) (h : s.inHand.tick.get b = true) (hc : s.pins.refclkAbsent = false) :
    s.takeWork b = (s.withInHand { s.inHand with tick := s.inHand.tick.taken b }).blockWork b := by
  simp [State.takeWork, h, hc]

/-- While the reference clock is absent no block takes tick work (R146). -/
theorem State.takeWork_absent (s : State) (b : TickBlock) (h : s.pins.refclkAbsent = true) : s.takeWork b = s := by
  simp [State.takeWork, h]

theorem State.takeWorks_absent (s : State) (bs : List TickBlock) (h : s.pins.refclkAbsent = true) :
    State.takeWorks bs s = s := by
  induction bs with
  | nil => rfl
  | cons b bs ih => rw [State.takeWorks, State.takeWork_absent s b h, ih]

theorem State.takeWork_done (s : State) (b : TickBlock) (h : s.inHand.tick.get b = false) : s.takeWork b = s := by
  simp [State.takeWork, h]

theorem TickOwed.get_taken_self (o : TickOwed) (b : TickBlock) : (o.taken b).get b = false := by
  cases b <;> rfl

theorem TickOwed.get_taken_of_ne (o : TickOwed) (a b : TickBlock) (h : b ≠ a) : (o.taken a).get b = o.get b := by
  cases a <;> cases b <;> first | rfl | (exact absurd rfl h)

/-! ### A telemetry frame in parts (R131) -/

theorem State.handleNext_end (s : State) (i : Intake) (n : Nat) (h : i.rest.length ≤ n) :
    s.handleNext i n = (State.handleReadings i.rest s).offerTransit i.frame := by
  simp [State.handleNext, State.endIntake, h]

theorem State.handleNext_more (s : State) (i : Intake) (n : Nat) (h : n < i.rest.length) :
    s.handleNext i n = (State.handleReadings (i.rest.take n) s).withInHand
      { s.inHand with intake := some { i with rest := i.rest.drop n } } := by
  simp [State.handleNext, Nat.not_le.mpr h]

theorem State.settleIntake_none (s : State) (h : s.inHand.intake = none) : s.settleIntake = s := by
  simp [State.settleIntake, h]

theorem State.settleIntake_some (s : State) (i : Intake) (h : s.inHand.intake = some i) :
    s.settleIntake = (State.handleReadings i.rest s.clearIntake).offerTransit i.frame := by
  simp [State.settleIntake, State.endIntake, h]

theorem State.observeFurther_none (s : State) (n : Nat) (h : s.inHand.intake = none) : s.observeFurther n = s := by
  simp [State.observeFurther, h]

theorem State.observeFurther_some (s : State) (n : Nat) (i : Intake) (h : s.inHand.intake = some i) :
    s.observeFurther n = s.clearIntake.handleNext i n := by
  simp [State.observeFurther, h]

theorem State.handleReadings_eq_foldl (ws : List Word) (s : State) :
    State.handleReadings ws s = ws.foldl (fun t w => t.handleReading w) s := by
  induction ws generalizing s with
  | nil => rfl
  | cons w ws ih => exact ih (s.handleReading w)

/-! ### Ending a tick in hand (R146, R151) -/

theorem State.settleTick_none (s : State) (h : s.inHand.tick.any = false) : s.settleTick = s := by
  simp [State.settleTick, h]

theorem State.settleTick_absent (s : State) (h : s.pins.refclkAbsent = true) : s.settleTick = s := by
  simp [State.settleTick, State.takeWorks_absent s _ h]

/-! ### What reads return and outputs send -/

theorem State.pointBit_pending (s : State) (p : FlipPoint) (h : s.cb.flip = some p) : s.pointBit = (p == .quiet) := by
  simp [State.pointBit, h]

@[simp] theorem outputWord_none : outputWord none = idleWord := rfl

theorem outputWord_some (x : Sending) (h : x.sent < (frameWords x.frame).length) :
    (frameWords x.frame)[x.sent]? = some (outputWord (some x)) := by
  simp [outputWord, h]

@[simp] theorem State.sendWords_wordUp (s : State) : s.sendWords.li.wordUp = outputWord s.li.outUp := rfl
@[simp] theorem State.sendWords_wordDown (s : State) : s.sendWords.li.wordDown = outputWord s.li.outDown := rfl

end Sys2Proof.Machine
end

