-- ==== Sys2Proof/Laws/Rows.lean ====
section
/-! SUPPORT. A request row when RH takes it, and what the shared operations on slew memory and flips leave. -/

namespace Sys2Proof.Safety

open Sys2Proof.Machine

/-- A response placed after the frame has been heard is the answered state. -/
theorem heard_respond (s : State) (tag : BitVec 4) (code : Nat) (st : Status) (more : Bool) (words : List Word) :
    (heard s).respond tag code { status := st, more := more, words := words } = answered tag code st more words s := rfl

/-- The frame of a row that is taken is received whole. -/
theorem takes_receives {code : Nat} {r : Request} {s : State} (h : takes code r s) :
    s.receives .downstream (rowFrame code r) = true := by
  obtain ⟨hheld, hargs, hrx, -⟩ := h
  simp only [State.receives, hheld, LinkInterface.rx, hrx]
  simp [rowFrame, requestFrame, madeFrame, requestPayload]
  omega

/-- A row that is taken carries out its effect on the state in which the frame has been heard, then answers. -/
theorem rowRequest_taken {code : Nat} {r : Request} {s : State} (h : takes code r s) (effect : State → State × Reply) :
    s.rowRequest code r effect = (effect (heard s)).1.respond r.tag code (effect (heard s)).2 := by
  have hr := takes_receives h
  obtain ⟨-, -, -, hq, hf, hl⟩ := h
  unfold State.rowRequest
  rw [State.onFrame_taken _ _ _ _ hr, State.request_taken]
  · rfl
  · simpa [State.setRx] using hq
  · exact hf
  · exact hl

/-- A frame that arrives downstream is received whole. -/
theorem arrivesDown_receives {f : Frame} {s : State} (h : arrivesDown f s) : s.receives .downstream f = true := by
  obtain ⟨hheld, hlen, hrx⟩ := h
  simp [State.receives, hheld, LinkInterface.rx, hrx, hlen]

/-- A frame that arrives upstream is received whole. -/
theorem arrivesUp_receives {f : Frame} {s : State} (h : arrivesUp f s) : s.receives .upstream f = true := by
  obtain ⟨hheld, hlen, hrx⟩ := h
  simp [State.receives, hheld, LinkInterface.rx, hrx, hlen]

/-- A cleared slew memory keeps its last grant alone (R16). -/
theorem clearSlew_get (v : Vector SlewMemory 4) (c : Chain) :
    (clearSlew v).get c = { last := (v.get c).last, valid := false, age := 0 } := by
  match c with
  | 0 => rfl
  | 1 => rfl
  | 2 => rfl
  | 3 => rfl

/-- Each slew memory ages on its own (R16). -/
theorem ageSlews_get (v : Vector SlewMemory 4) (expiry : Int) (c : Chain) : (ageSlews v expiry).get c = (v.get c).aged expiry := by
  match c with
  | 0 => rfl
  | 1 => rfl
  | 2 => rfl
  | 3 => rfl

/-- A rotation moves each bucket one place nearer the oldest end (R79). -/
theorem rotateBuckets_get (b : Vector Nat 16) (i : Fin 15) :
    (rotateBuckets b).get ⟨i.val, by omega⟩ = b.get ⟨i.val + 1, by omega⟩ := by
  match i with
  | ⟨0, _⟩ => rfl
  | ⟨1, _⟩ => rfl
  | ⟨2, _⟩ => rfl
  | ⟨3, _⟩ => rfl
  | ⟨4, _⟩ => rfl
  | ⟨5, _⟩ => rfl
  | ⟨6, _⟩ => rfl
  | ⟨7, _⟩ => rfl
  | ⟨8, _⟩ => rfl
  | ⟨9, _⟩ => rfl
  | ⟨10, _⟩ => rfl
  | ⟨11, _⟩ => rfl
  | ⟨12, _⟩ => rfl
  | ⟨13, _⟩ => rfl
  | ⟨14, _⟩ => rfl

/-- A parameter id of the store names its parameter, and any other id none (R177, R178). -/
theorem ofId_id (p : ParamId) : ParamId.ofId p.id = some p := by
  cases p <;> rfl

theorem ofId_none (n : Nat) (h : n = 0 ∨ 36 < n) : ParamId.ofId n = none := by
  rcases h with rfl | h
  · rfl
  · obtain ⟨m, rfl⟩ : ∃ m, n = m + 1 := ⟨n - 1, by omega⟩
    simp [ParamId.ofId, ParamId.all]
    omega

end Sys2Proof.Safety
end

