-- ==== Sys2Proof/Tests/Slice0.lean ====
section
/-! SUPPORT. Tests: ill-formed terms that WellFormed refuses, the worked cases of the manual one step at a time, and for
each obligation with hypotheses a state and operands that meet them. Expected values are the manual's. -/

namespace Sys2Proof.Tests

open Sys2Proof.Machine Sys2Proof.Safety

/-! ### Building states and commands -/

/-- The state after one command, or the same state at a stop. -/
def after (i : Instr) (s : State) : State :=
  match exec i s with
  | .next t => t
  | .fault _ => s
  | .refused _ => s

/-- A request with tag 5, form 0 and reserved bits 0. -/
def req (args : List Word) : Request := { tag := 5, low := 0, args := args }

/-- A frame body with tag 3 and the check word of R165. -/
def good (kind : BitVec 4) (payload : List Word) : FrameBody :=
  { tag := 3, payload := payload, check := checkWord kind 3 payload }

/-- A frame body whose check word is bad. -/
def bad (kind : BitVec 4) (payload : List Word) : FrameBody :=
  { tag := 3, payload := payload, check := checkWord kind 3 payload + 1 }

/-- A frame of kind 7, which is transit in both directions. -/
def transit : Frame := { kind := 7, tag := 1, payload := [1, 2], check := 0 }

/-- The state right after reset with other values of single items. -/
def withParam (p : ParamId) (v : Int) (s : State) : State := s.setParam p v
def withObs (k : ObsKind) (v : Int) (fresh : Nat) (s : State) : State :=
  s.setObs k { value := v, fresh := fresh, saturated := false }
def withOwed (s : State) : State := s.withInHand { s.inHand with tick := TickOwed.all }
def withQueue (gs : List GovFrame) (s : State) : State := s.withLi { s.li with insert := gs }
def withFlip (p : FlipPoint) (s : State) : State := s.withCb { s.cb with flip := some p }
def withMode (m : Mode) (s : State) : State := s.withGe { s.ge with mode := m }
def withChain (c : Chain) (r : ChainRecord) (s : State) : State := s.setChain c r
def withSlot (n : Fin 16) (c : CurveSlot) (s : State) : State := s.setSlot n c
def withRise (a b : Nat) (s : State) : State :=
  s.withTe { a := { s.te.a with rise := a }, b := { s.te.b with rise := b } }
def withBank (b : Bank) (s : State) : State := s.withCb { s.cb with bank0 := b }
def withStandby (b : Bank) (s : State) : State := s.withCb { s.cb with bank1 := b }
def withDivider (p d : Nat) (s : State) : State := s.withTg { s.tg with prescaler := p, divider := d }

/-- The curves of section 1.10. -/
def c1 : CurveData :=
  { kind := .ceiling, x0 := 160, shift := 4, ys := [92, 92, 92, 90, 88, 84, 80, 74, 68, 60, 52, 44, 36, 28, 20, 12, 4] }
def k1 : CurveData :=
  { kind := .current, x0 := 0, shift := 3
    ys := [180, 190, 200, 215, 230, 250, 275, 305, 340, 380, 430, 490, 560, 640, 730, 830, 940] }
def h1 : CurveData :=
  { kind := .heat, x0 := 0, shift := 3
    ys := [300, 320, 340, 370, 400, 440, 490, 550, 620, 700, 790, 890, 1000, 1120, 1250, 1390, 1540] }

/-- The three curves in slots 1, 2 and 3. -/
def withCurves (s : State) : State := withSlot 3 (.valid h1) (withSlot 2 (.valid k1) (withSlot 1 (.valid c1) s))

/-- A chain of sections 1.10 and 1.11. -/
def chainOn (m : Module) (priority : Nat) : Descriptor :=
  { present := true, module := m, priority := priority, rated := 96, floor := 40, rise := 4, ceiling := .slot 1, heat := .slot 3
    current := .slot 2 }

/-- The bank of section 1.10. -/
def bank110 : Bank :=
  { Bank.empty with
    chains := #v[chainOn .a 0, Descriptor.empty, chainOn .b 1, Descriptor.empty]
    rules := Bank.empty.rules.set 0 { Rule.empty with valid := true, waveforms := 8, backoff := 4 } }

/-- The bank of section 1.11. -/
def bank111 : Bank :=
  { Bank.empty with chains := #v[Descriptor.empty, chainOn .b 2, Descriptor.empty, chainOn .b 0] }

/-- A bank with one present chain that names no curve. -/
def bankPlain : Bank :=
  { Bank.empty with chains := Bank.empty.chains.set 0 { Descriptor.empty with present := true, rated := 96, floor := 40 } }

/-- The state of section 1.10: ACTIVE, rises that give 291 and 250, an allowance of 700, slew memories of 68 and 70. -/
def state110 : State :=
  (withMode .active (withBank bank110 (withCurves (withChain 2 { ChainRecord.reset with state := .detuned }
    (withRise 111 70 (withParam .supplyFallback 700 State.reset)))))).setSlew 0 { last := 68, valid := true, age := 1 }
    |>.setSlew 2 { last := 70, valid := true, age := 1 }

/-- The order of section 1.10. -/
def order110 : FrameBody := good kindSlotOrder [20997, 384, 92, 33536, 88]

/-- The state of section 1.11: CAPPED with an allowance of 420. -/
def state111 : State :=
  withMode .active (withBank bank111 (withCurves (withRise 0 20 (withParam .chargeAllowance 0 (withParam .sustainedCurrent 420
    (State.reset.withSa { State.reset.sa with charge := .capped }))))))

/-- The order of section 1.11. -/
def order111 : FrameBody := good kindSlotOrder [29190, 16384, 80, 49280, 60, 16384, 40]

/-! ### WellFormed: one ill-formed term for each check -/

def longWords : List Word := List.replicate 32 0
def longReq : Request := { tag := 0, low := 0, args := longWords }

def illFormed : List Instr :=
  [.slotOrder { tag := 0, payload := longWords, check := 0 }, .telemetry (.frame { tag := 0, payload := longWords, check := 0 }) 0,
   .upstreamTransitFrame { transit with payload := longWords }, .upstreamTransitFrame { transit with kind := kindTelemetry },
   .downstreamTransitFrame { transit with payload := longWords }, .downstreamTransitFrame { transit with kind := kindSlotOrder },
   .downstreamTransitFrame { transit with kind := kindRequest }, .requestDiscarded { tag := 0, payload := longWords, check := 0 },
   .requestDiscarded (good kindRequest [0x0400]), .requestDropped 0 longWords, .identify longReq, .modeSet longReq,
   .paramWrite longReq, .paramWrite (req [13, 0, 0]), .paramWrite (req [30, 0, 0]), .paramWrite (req [35, 0, 0]),
   .paramWrite (req [36, 0, 0]), .tickCodeWrite longReq, .boardFallbackWrite longReq, .noticeEnableWrite longReq,
   .noticeLatchWrite longReq]
  ++ [.paramRead longReq, .chainWrite longReq, .ruleWrite longReq, .headerWrite longReq, .copy longReq, .flip longReq,
   .flipCancel longReq, .tableRead longReq, .curveOpen longReq, .curveData longReq, .curveRead longReq, .mapWrite longReq,
   .mapRead longReq, .stateRead longReq, .logRead longReq, .logFlush longReq, .noticeClear longReq, .softReset longReq,
   .tick .produce [.te, .te], .unknownRequest 0 longWords, .unknownRequest 0 [0x0400]]

theorem test_ill_formed_terms_are_refused : illFormed.all (fun i => !i.wellFormed) = true := by decide

theorem test_well_formed_terms_are_accepted :
    ([.slotOrder order110, .paramWrite (req [1, 0, 0]), .unknownRequest 0 [], .unknownRequest 0 [0x5800],
      .requestDiscarded (bad kindRequest [0x0400]), .tick .produce allBlocks] : List Instr).all Instr.wellFormed = true := by
  decide

/-! ### Worked cases of the manual -/

/-- Section 1.10: both entries go out at 66; 457 heat to each module, 500 to the open bucket. -/
theorem test_order_of_two_chains :
    (after (.slotOrder order110) state110).li.downPath = [madeFrame kindSlotOrder 3 [20997, 384, 66, 33536, 66]]
      ∧ (after (.slotOrder order110) state110).te.a.heat = 457 ∧ (after (.slotOrder order110) state110).te.b.heat = 457
      ∧ (after (.slotOrder order110) state110).sa.buckets.get 15 = 500
      ∧ newest (after (.slotOrder order110) state110)
        = some (.grant false 517 [{ chain := 0, reason := .thermal, value := .on 66 },
            { chain := 2, reason := .current, value := .on 66 }] 0) := by decide

/-- Section 1.10 in MONITOR: the requests go out, the open bucket takes 725 and the memories the would-be grants. -/
theorem test_order_in_monitor :
    (after (.slotOrder order110) (withMode .monitor state110)).li.downPath
        = [madeFrame kindSlotOrder 3 [20997, 384, 92, 33536, 88]]
      ∧ (after (.slotOrder order110) (withMode .monitor state110)).sa.buckets.get 15 = 725
      ∧ (after (.slotOrder order110) (withMode .monitor state110)).ge.slew.get 2
        = { last := 66, valid := true, age := 0 } := by decide

/-- Section 1.11: a shed entry, an anchor at its request, a duplicate. -/
theorem test_order_with_a_shed_entry :
    (after (.slotOrder order111) state111).li.downPath
        = [madeFrame kindSlotOrder 3 [29190, 16384, 512, 49280, 60, 16384, 512]]
      ∧ (after (.slotOrder order111) state111).te.b.heat = 585
      ∧ (after (.slotOrder order111) state111).sa.buckets.get 15 = 322
      ∧ (after (.slotOrder order111) state111).nu.pending = NoticeClass.shed.bit := by decide

/-- Section 1.12: a memory of age 2 expires at 3. -/
theorem test_slew_expiry :
    ((after (.slewExpiry 1) (withOwed (withParam .slewExpiry 3
      (State.reset.setSlew 1 { last := 84, valid := true, age := 2 })))).ge.slew.get 1)
      = { last := 84, valid := false, age := 3 } := by decide

/-- The thermal state of section 2.9 before its tick. -/
def state29 : State :=
  withOwed (State.reset.withTe { a := { rise := 100, heat := 9000, zone := .cool }, b := { rise := 40, heat := 4000, zone := .cool } })

theorem test_tick_heats_both_modules :
    (after (.tick .deliver [.te]) state29).te
        = { a := { rise := 109, heat := 0, zone := .warm }, b := { rise := 45, heat := 0, zone := .cool } }
      ∧ newest (after (.tick .deliver [.te]) state29) = some (.zone .a .cool .warm 289 0) := by decide

/-- Section 2.9: a die reading of 270 truncates −5.25 to −5. -/
theorem test_correction_truncates : ((withRise 111 45 State.reset).dieCorrection .a 270).te.a.rise = 106 := by decide

/-- Section 2.11: both rises reach the bound. -/
theorem test_tick_saturates :
    (after (.tick .deliver [.te]) (withOwed (State.reset.withTe {
      a := { rise := 500, heat := 1048575, zone := .critical }, b := { rise := 900, heat := 1000000, zone := .critical } }))).te
      = { a := { rise := 1023, heat := 0, zone := .critical }, b := { rise := 1023, heat := 0, zone := .critical } } := by decide

/-- Section 2.10: CRITICAL holds at 368 and falls to WARM at 290. -/
theorem test_zone_falls_through :
    nextZone 368 240 320 380 12 .critical = .critical ∧ nextZone 290 240 320 380 12 .critical = .warm
      ∧ nextZone 385 240 320 380 12 .warm = .critical := by decide

/-- Section 3.9, event 3. -/
theorem test_bad_reading_confirms :
    ((withObs (.fwd 1) 80 32 (withParam .confirm 2 (withChain 1 { ChainRecord.reset with confirm := 1, lastRL := 32 }
      State.reset))).reflDelivered 1 70).ms.get 1 = { ChainRecord.reset with state := .severe, lastRL := 10 } := by decide

/-- Section 3.9, event 9: the severe timer reaches 4 with the improving flag clear. -/
def parking39 : State :=
  withOwed (withParam .severeLimit 4 (withParam .parkTicks 2 (withChain 1
    { ChainRecord.reset with state := .severe, recovery := 1, severe := 3, lastRL := 18 } State.reset)))

theorem test_parking :
    (after (.parking 1) parking39).ms.get 1 = { ChainRecord.reset with state := .parked, park := 2, lastRL := 18 }
      ∧ newest (after (.parking 1) parking39) = some (.mismatch 1 .severe .parked 18 0) := by decide

/-- Section 3.9, event 12. -/
def release39 : State :=
  withOwed (withChain 1 { ChainRecord.reset with state := .parked, park := 1, lastRL := 18 } State.reset)

theorem test_park_release :
    (after (.parkRelease 1) release39).ms.get 1
      = { ChainRecord.reset with state := .detuned, probe := true, lastRL := 18 } := by decide

/-- Section 3.10: the recovery is tested before the severe limit. -/
def recovery310 : State :=
  withOwed (withParam .recoverTicks 4 (withChain 2
    { ChainRecord.reset with state := .severe, improving := true, recovery := 3, severe := 127 } State.reset))

theorem test_recovery_comes_first :
    (after (.recovery 2) recovery310).ms.get 2 = { ChainRecord.reset with state := .detuned }
      ∧ after (.parking 2) recovery310 = recovery310 := by decide

/-- Section 4.8, event 8: the rotation releases the state. -/
def window48 : State :=
  withOwed (withParam .windowTicks 3 (withParam .chargeAllowance 8000 (State.reset.withSa {
    buckets := #v[400, 400, 400, 400, 400, 400, 400, 400, 400, 400, 400, 400, 400, 400, 1550, 200]
    windowSum := 7350, counter := 1, charge := .capped })))

theorem test_window_rotation :
    (after .windowRotation window48).sa
        = { buckets := #v[400, 400, 400, 400, 400, 400, 400, 400, 400, 400, 400, 400, 400, 1550, 200, 0]
            windowSum := 6950, counter := 3, charge := .ok }
      ∧ newest (after .windowRotation window48) = some (.charge .capped .ok 6950 0) := by decide

/-- Section 4.7: an interpolated allowance and the first point. -/
theorem test_allowance_from_a_curve :
    ({ kind := .supply, x0 := 1600, shift := 4
       ys := [0, 200, 400, 600, 800, 950, 1100, 1250, 1400, 1500, 1600, 1700, 1800, 1880, 1960, 2040, 2100] } : CurveData).eval 1700
      = 1137 := by decide

/-- Section 5.10. -/
theorem test_curve_evaluations :
    [120, 160, 200, 250, 291, 414, 415, 416, 1203].map c1.eval = [92, 92, 91, 81, 66, 5, 4, 4, 4]
      ∧ [-40, 66, 74, 92, 127, 140].map k1.eval = [180, 350, 392, 525, 926, 940] := by decide

/-- Section 5.11, request 1. -/
theorem test_curve_open_clamps :
    (after (.curveOpen (req [3, 0, -200, 4])) State.reset).li.insert = [.response 5 [0x3040, 3, 0, -160, 4]]
      ∧ (after (.curveOpen (req [3, 0, -200, 4])) State.reset).cs.cursor = some { slot := 3, cursor := 0 } := by decide

/-- Section 5.12, load a: the last value closes the slot INVALID (SHAPE). -/
def loading512 : State :=
  (withSlot 6 (.loading { k1 with ys := (k1.ys.set 10 370).take 16 }) State.reset).withCs
    { (withSlot 6 (.loading { k1 with ys := (k1.ys.set 10 370).take 16 }) State.reset).cs with cursor := some { slot := 6, cursor := 16 } }

theorem test_curve_data_closes_on_shape :
    (after (.curveData (req [940])) loading512).cs.slots.get 6 = .invalid .shape { k1 with ys := k1.ys.set 10 370 }
      ∧ (after (.curveData (req [940])) loading512).cs.cursor = none
      ∧ newest (after (.curveData (req [940])) loading512) = some (.curve 6 .shape 0) := by decide

/-- Section 6.9, event 1: the floor is held to 96 and the rise step to 32. -/
def chainWrite69 : Request := { tag := 5, low := 256, args := [2, 0x3F, 1, 1, 1, 96, 110, 40, 0, 0, 0] }

theorem test_chain_write_clamps :
    (after (.chainWrite chainWrite69) State.reset).cb.bank1.descriptor 2
      = { present := true, module := .b, priority := 1, rated := 96, floor := 96, rise := 32, ceiling := .none, heat := .none
          current := .none } := by decide

/-- Section 6.9, event 3. -/
theorem test_rule_write :
    (after (.ruleWrite { tag := 5, low := 256, args := [0, 0x109, 1, 0, 0, 8, 0, 0, 0, 0, 4, 0, 0] }) State.reset).cb.bank1.rules.get 0
      = { Rule.empty with valid := true, waveforms := 8, backoff := 4 } := by decide

/-- Section 6.9, event 6: a descriptor that names an EMPTY slot. -/
def chain69 : Descriptor := { Descriptor.empty with present := true, ceiling := .slot 3 }

theorem test_flip_names_the_failing_reference :
    (after (.flip (req [0])) (withStandby { Bank.empty with chains := Bank.empty.chains.set 2 chain69 } State.reset)).li.insert
      = [.response 5 [0x25C0, 0, 1, 2, 6, 3, 0]] := by decide

/-- Section 6.10, event 6: the change to QUIET applies the pending flip. -/
theorem test_stream_quiet_applies_the_flip :
    (after .streamQuiet (withOwed (withFlip .quiet (State.reset.withGe
      { State.reset.ge with stream := .live, quietCount := 3 })))).cb.active = 1
      ∧ (after .streamQuiet (withOwed (withFlip .quiet (State.reset.withGe
        { State.reset.ge with stream := .live, quietCount := 3 })))).ge.quietCount = 4 := by decide

/-- Section 6.11: entry c meets rule 1 and entry d the default action. -/
def rule0 : Rule := { Rule.empty with valid := true, waveforms := 8, backoff := 4 }
def rule1 : Rule :=
  { Rule.empty with
    valid := true
    zones := 12
    anchor := .nonAnchor
    ceiling := .slot 12
    backoff := 8
    shed := .allow
    logAlways := true }
def bank611 : Bank := { Bank.empty with rules := (Bank.empty.rules.set 0 rule0).set 1 rule1 }

theorem test_first_match :
    bank611.matchRule (readEntry 0x5C00 0) .hot .matched = { ceiling := .slot 12, backoff := 8, shed := .allow, logAlways := true }
      ∧ bank611.matchRule (readEntry 0xDC80 0) .warm .matched
        = { ceiling := .default, backoff := 0, shed := .default, logAlways := false } := by decide

/-- Section 7.8: the first words of the first frame. -/
def map78 : State :=
  State.reset.withTi { State.reset.ti with
    map := (State.reset.ti.map.set 0 { kind := some .dieA, offset := -4 }).set 2 { kind := some .board, offset := 6 } }

theorem test_telemetry :
    (after (.telemetry (.frame (good kindTelemetry [0x210E, 0x0130])) 2) map78).obsOf .board
        = { value := 276, fresh := 32, saturated := false }
      ∧ (after (.telemetry (.frame (good kindTelemetry [0x210E, 0x0130])) 2) map78).te.a = { rise := 6, heat := 0, zone := .warm } := by
  decide

/-- Section 7.8, second frame: a rail code sets the flag and moves no value. -/
theorem test_rail_code :
    ((withObs .board 276 32 map78).handleReading 0x27FF).obsOf .board = { value := 276, fresh := 32, saturated := true } := by
  decide

/-- R131: a frame of three die readings of 270 with tick work of the Thermal Estimator in both gaps; the rise goes 111,
106, 80, 82, 62, 69 at a correction gain of 64 and a cooling rate of 64. -/
def gap1 : State :=
  after (.telemetry (.frame (good kindTelemetry [0x0112, 0x0112, 0x0112])) 1) (withRise 111 0 (withParam .alpha 64 map78))
def gap2 : State := after (.telemetry .further 1) (after (.tick .deliver [.te]) (withOwed gap1))
def gapEnd : State := after (.telemetry .further 1) (after (.tick .deliver [.te]) (withOwed gap2))

theorem test_events_in_two_gaps :
    (gap1.te.a.rise = 106 ∧ gap1.li.transit = []) ∧ (gap2.te.a.rise = 82 ∧ gap2.li.transit = [])
      ∧ gapEnd.te.a.rise = 69 ∧ gapEnd.li.transit.length = 1 := by decide

/-- Section 7.9, third tick. -/
def silent79 : State :=
  withOwed (withObs .board 276 1 ((withRise 6 0 map78).withTe { a := { rise := 6, heat := 0, zone := .warm }, b := State.reset.te.b }))

theorem test_observation_stale :
    (after (.observationStale .board) silent79).boardRef = 180 ∧ (after (.observationStale .board) silent79).te.a.zone = .cool
      ∧ (after (.observationStale .board) silent79).ol.store
        = [.reset .powerOn 0, .stale true .board 0, .zone .a .warm .cool 186 0] := by decide

/-- R149: from 16,777,215 the count returns to 0. -/
theorem test_tick_counter_wraps :
    (after (.tick .produce []) (State.reset.withTg { prescaler := 0, divider := 0, counter := 16777215 })).tg.counter = 0 := by
  decide

/-- R152: an order between a tick's production and the Grant Engine's work of it. That tick does not count toward QUIET,
and the next one does. -/
def orderedTick : State :=
  after (.tick .deliver allBlocks) (after (.slotOrder (good kindSlotOrder [0x0800])) (after (.tick .produce []) State.reset))

theorem test_a_tick_before_an_order_does_not_count :
    orderedTick.ge.quietCount = 0 ∧ orderedTick.inHand = InHand.reset
      ∧ (after (.tick .produce [.ge]) orderedTick).ge.quietCount = 1 := by decide

/-- R146: while the reference clock is absent nothing is counted, and a tick already produced holds. -/
theorem test_the_clock_is_absent :
    after (.tick .produce allBlocks) (after .refclkStop State.reset) = after .refclkStop State.reset
      ∧ after .windowRotation (window48.withPins { window48.pins with refclkAbsent := true })
        = window48.withPins { window48.pins with refclkAbsent := true } := by decide

/-- Section 8.7: the write discards the milliseconds counted. -/
theorem test_tick_code_write :
    (after (.tickCodeWrite (req [0, 3])) (withDivider 0 10 State.reset)).tg = { prescaler := 0, divider := 0, counter := 0 }
      ∧ (after (.tickCodeWrite (req [0, 9])) State.reset).li.insert = [.response 5 [0x0C40, 30, 0, 7]] := by decide

/-- Section 9.3's case of overwrite and drain: two records go, two losses with the stamp 9000. -/
def log511 : State :=
  ((withParam .watermark 384 State.reset).withTg { prescaler := 0, divider := 0, counter := 9000 }).withOl {
    State.reset.ol with
    store := [.zone .a .cool .warm 0 0, .reading .board 0 0, .link .check 0, .stale true .board 0]
      ++ List.replicate 167 (.zone .a .cool .warm 0 0) ++ [.reading .board 0 0]
    fill := 511 }

theorem test_overwrite_removes_the_oldest :
    (log511.record (.grant false 0 (List.replicate 4 { chain := 0, reason := .shed, value := .off }) 0)).ol.fill = 512
      ∧ (log511.record (.grant false 0 (List.replicate 4 { chain := 0, reason := .shed, value := .off }) 0)).ol.lost = 2
      ∧ (log511.record (.grant false 0 (List.replicate 4 { chain := 0, reason := .shed, value := .off }) 0)).ol.firstLoss = 9000
      ∧ (log511.record (.grant false 0 (List.replicate 4 { chain := 0, reason := .shed, value := .off }) 0)).nu.pending
        = NoticeClass.loss.bit := by decide +kernel

/-- R158: a read that empties the log adds a TIME record. -/
theorem test_log_read_adds_time :
    (after (.logRead (req [8])) State.reset).li.insert = [.response 5 [0x4800, 0xA000, 0xB000, 0, 0, 0]]
      ∧ (after (.logRead (req [8])) State.reset).ol.store = [] := by decide

/-- Section 9.6's case of merging: SHED waits until it is enabled. -/
theorem test_notice_enable_write :
    (after (.noticeEnableWrite (req [0, 21])) ((withParam .noticeEnable 17 State.reset).withNu { pending := 4, owed := false })).li.insert
      = [.notice 4, .response 5 [0x0C00, 35, 0, 21]] := by decide

/-- Section 9.6's case of latching: a call that finds no place is owed, and is met by the next departure. -/
theorem test_latched_notice_is_owed :
    ((withQueue (List.replicate 3 (.response 0 [])) (withParam .noticeLatch 1 (withParam .noticeEnable 1 State.reset))).raise .zone).nu
        = { pending := 1, owed := true }
      ∧ (after .upstreamOutputFrame ((withQueue (List.replicate 3 (.response 0 [])) (withParam .noticeLatch 1
          (withParam .noticeEnable 1 State.reset))).raise .zone)).li.insert
        = [.response 0 [], .response 0 [], .notice 1] := by decide

/-- Section 10.6, event 5: a request at a full queue is dropped with a LINK record. -/
theorem test_request_at_a_full_queue :
    newest (after (.flip (req [0])) (withQueue (List.replicate 4 (.response 0 [])) State.reset)) = some (.link .droppedRequest 0)
      ∧ (after (.flip (req [0])) (withQueue (List.replicate 4 (.response 0 [])) State.reset)).cb.flip = none := by decide

/-- Section 10.6, event 8: after a transit frame the insert queue is served. -/
theorem test_outputs_alternate :
    (after .upstreamOutputFrame ((withQueue [.response 0 []] State.reset).withLi
      { (withQueue [.response 0 []] State.reset).li with transit := [transit] })).li.lastServed = .insert := by decide

/-- R165: the check word of a slot order with slot 0, duration 1, frame-start and no entry. -/
theorem test_check_word : checkWord kindSlotOrder 0 [0x0C00] = 0xE37F := by decide

/-- R165: an idle word leaves the receiver SEEKING and a header begins a frame. -/
theorem test_words_received :
    (after (.headerWordReceived .upstream 0xFFFF) State.reset) = State.reset
      ∧ (after (.headerWordReceived .upstream 0x1080) State.reset).li.rxUp = .inFrame [0x1080] := by decide

/-- R165: an output in progress sends the words of its frame, then the idle word. -/
def sending (f : Frame) (n : Nat) : State :=
  State.reset.withLi { State.reset.li with outUp := some { frame := f, sent := n } }

theorem test_output_words :
    (sending transit 0).sendWords.li.wordUp = 0x7108 ∧ (sending transit 1).sendWords.li.wordUp = 1
      ∧ (sending transit 3).sendWords.li.wordUp = 0 ∧ (sending transit 3).sendWords.sendWords.li.wordUp = 0xFFFF := by decide

/-- R175, R176, R178, R183 and R163 on small states. -/
theorem test_identify :
    (after (.identify (req [])) State.reset).li.insert
      = [.response 5 [0x0400, 0x4210, 3, 4, 2, 16, 32, 16, 512]] := by decide

theorem test_mode_set_active_needs_a_chain :
    (after (.modeSet (req [2])) State.reset).li.insert = [.response 5 [0x09C0]]
      ∧ (after (.modeSet (req [2])) (withBank bankPlain State.reset)).ge.mode = .active := by decide

theorem test_param_write_holds_the_threshold :
    (after (.paramWrite (req [10, 0, 500])) State.reset).param .hot = 379
      ∧ (after (.paramRead (req [28])) State.reset).li.insert = [.response 5 [0x1000, 28, 549, 20736]] := by decide

theorem test_notice_clear :
    (after (.noticeClear (req [1])) (State.reset.withNu { pending := 5, owed := false })).nu.pending = 4
      ∧ (after (.noticeClear (req [1024])) State.reset).li.insert = [.response 5 [0x5100]] := by decide

theorem test_soft_reset :
    (after (.softReset (req [])) (withMode .monitor State.reset)).li.insert = [.response 5 [0x5400, 0x0102]]
      ∧ (after (.softReset (req [])) (withMode .monitor State.reset)).ge.mode = .fixed
      ∧ (after (.softReset (req [])) State.reset).ol.store = [.reset .powerOn 0, .reset .soft 0] := by decide

theorem test_pin_reset :
    (after .pinResetRelease (after .pinResetAssert (withMode .monitor State.reset))).ol.store = [.reset .pin 0]
      ∧ (after .pinResetRelease (after .pinResetAssert (withMode .monitor State.reset))).rh.cause = .pin := by decide

theorem test_table_read_of_an_empty_bank :
    (after (.tableRead (req [1, 0, 0, 0])) (withFlip .quiet State.reset)).li.insert = [.response 5 [0x2C00, 13, 0, 529, 0]] := by
  decide

theorem test_map_write :
    (after (.mapWrite (req [2, 1, 0x3FFF])) State.reset).ti.map.get 2 = { kind := some .board, offset := -1 } := by decide

theorem test_state_read_general :
    (after (.stateRead (req [0])) (withFlip .quiet State.reset)).li.insert
      = [.response 5 [0x4400, 0x045C, 0, 0, 0, 1, 0, 0, 0, 0]] := by decide

theorem test_unknown_request :
    (after (.unknownRequest 5 [0x5800]) State.reset).li.insert = [.response 5 [0x58C0]]
      ∧ (after (.unknownRequest 5 []) State.reset).li.insert = [.response 5 [0x0080]] := by decide

/-! ### Witnesses: states and operands that meet the hypotheses of each obligation, clause by clause -/

/-- Three frames in the insert queue: a request still finds a place. -/
def q3 (s : State) : State := withQueue (List.replicate 3 (.response 0 [])) s

/-- Four frames in the insert queue: a request finds none. -/
def q4 (s : State) : State := withQueue (List.replicate 4 (.response 0 [])) s

/-- Two frames wait in the transit buffer. -/
def t2 (s : State) : State := s.withLi { s.li with transit := [transit, transit] }

/-- A state in LATCHED mode with classes pending, nothing enabled, and a notice owed. -/
def latched (pending : ClassSet) : State := (withParam .noticeLatch 1 State.reset).withNu { pending := pending, owed := true }

/-- A request in ZERO form. -/
def zreq (args : List Word) : Request := { tag := 5, low := 256, args := args }

/-- A receiver that holds some words. -/
def holding (ws : List Word) : State := State.reset.setRx .downstream (.inFrame ws)

theorem witness_empty_queue :
    ((after .pinResetAssert State.reset).pending = [] ∧ (after .pinResetAssert State.reset).held = true)
      ∧ ((after .refclkStop State.reset).pending = [] ∧ (after .refclkStop State.reset).held = false
        ∧ (after .refclkStop State.reset).pins.refclkAbsent = true)
      ∧ (State.reset.pending = [] ∧ State.reset.held = false ∧ State.reset.pins.refclkAbsent = false)
      ∧ (withDivider 19198 15 State.reset).tg.prescaler + 1 < 19200
      ∧ (19200 ≤ (withDivider 19199 14 State.reset).tg.prescaler + 1
        ∧ (withDivider 19199 14 State.reset).tg.divider + 1 < 2 ^ State.reset.paramNat .tickCode)
      ∧ (19200 ≤ (withDivider 19199 15 State.reset).tg.prescaler + 1
        ∧ 2 ^ State.reset.paramNat .tickCode ≤ (withDivider 19199 15 State.reset).tg.divider + 1)
      ∧ (State.reset.li.outUp = none ∧ (sending transit 3).li.outUp = some { frame := transit, sent := 3 }
        ∧ 3 < (frameWords transit).length) := by decide

theorem witness_ticks_come :
    State.reset.pending = [] ∧ State.reset.held = false ∧ State.reset.pins.refclkAbsent = false
      ∧ State.reset.tg.prescaler = 0 ∧ State.reset.tg.divider = 0 ∧ 0 < 19200 * 2 ^ State.reset.paramNat .tickCode := by decide

/-- A sound state with curves in force, a pending flip, an ACTIVE mode, a parked chain and work owed. -/
def sound : State :=
  (withOwed (withFlip .quiet (withStandby bank111 (withChain 1 { ChainRecord.reset with state := .parked, park := 3 } state110)))).withPending
    [.streamQuiet]

theorem witness_invariants :
    logSound sound ∧ queuesSound sound ∧ paramsSound sound ∧ windowSound sound ∧ thermalSound sound ∧ banksSound sound
      ∧ curvesSound sound ∧ referencesSound sound ∧ activeSound sound ∧ mismatchSound sound ∧ heldSound sound := by decide

theorem witness_invariants_step : ∃ t, step sound = .next t := ⟨_, rfl⟩

theorem witness_held : (after .pinResetAssert sound).held = true ∧ heldSound (after .pinResetAssert sound) := by decide

theorem witness_frames : ({ transit with payload := List.replicate 31 7 } : Frame).payload.length ≤ 31 := by decide

theorem witness_governed_frames :
    orderLengthGood (bodyFrame kindSlotOrder order110).payload.length = true
      ∧ [Power.on 140, .on (-200)].length = (readEntries ((bodyFrame kindSlotOrder order110).payload.drop 1)).length := by decide

theorem witness_governed_powers : ∀ q : Int, Power.on q ∈ [Power.on 140, .on (-200)] → -200 ≤ q ∧ q ≤ 140 := by
  intro q h
  simp at h
  omega

theorem witness_frame_rows :
    frameOf (.slotOrder order110) = some (.downstream, bodyFrame kindSlotOrder order110)
      ∧ frameOf (.telemetry (.frame (good kindTelemetry [0])) 1) = some (.upstream, bodyFrame kindTelemetry (good kindTelemetry [0]))
      ∧ frameOf (.modeSet (req [2])) = some (.downstream, rowFrame 2 (req [2])) ∧ (rowFrame 2 (req [2])).payload.length ≤ 31
      ∧ State.reset.held = false ∧ State.reset.li.rx .downstream = .seeking ∧ State.reset.li.rx .upstream = .seeking := by decide

theorem witness_words :
    (after .supplyOutOfRange State.reset).held = true ∧ (State.reset.held = false ∧ State.reset.li.rx .upstream = .seeking)
      ∧ bits 0x1081 0 3 ≠ 0 ∧ bits 0x1080 0 3 = 0
      ∧ ((holding [0x1080]).held = false ∧ (holding [0x1080]).li.rx .downstream = .inFrame [0x1080]
        ∧ ([0x1080] ++ [0x0C00] : List Word).length < headerLength ([0x1080] ++ [0x0C00]) + 2)
      ∧ ((holding [0x1080, 0x0C00]).li.rx .downstream = .inFrame [0x1080, 0x0C00]
        ∧ headerLength ([0x1080, 0x0C00] ++ [0xE37F]) + 2 ≤ ([0x1080, 0x0C00] ++ [0xE37F] : List Word).length) := by decide

theorem witness_transit :
    arrivesDown transit State.reset ∧ transit.kind ≠ kindSlotOrder ∧ transit.kind ≠ kindRequest
      ∧ arrivesUp transit State.reset ∧ transit.kind ≠ kindTelemetry ∧ State.reset.inHand.intake = none
      ∧ (State.reset.withLi { State.reset.li with transit := [transit] }).li.transit.length < 2
      ∧ arrivesUp transit (t2 State.reset) ∧ 2 ≤ (t2 State.reset).li.transit.length
      ∧ (t2 State.reset).param .logMode = 1 := by decide

theorem witness_faulty_orders :
    arrivesDown (bodyFrame kindSlotOrder (bad kindSlotOrder [0])) State.reset
      ∧ checkGood (bodyFrame kindSlotOrder (bad kindSlotOrder [0])) = false ∧ State.reset.param .logMode = 1
      ∧ arrivesDown (bodyFrame kindSlotOrder (good kindSlotOrder [0, 0])) State.reset
      ∧ checkGood (bodyFrame kindSlotOrder (good kindSlotOrder [0, 0])) = true
      ∧ (∀ n, n ≤ 4 → (good kindSlotOrder [0, 0]).payload.length ≠ 1 + 2 * n)
      ∧ arrivesDown (bodyFrame kindSlotOrder (good kindSlotOrder (List.replicate 11 0))) State.reset
      ∧ checkGood (bodyFrame kindSlotOrder (good kindSlotOrder (List.replicate 11 0))) = true
      ∧ (∀ n, n ≤ 4 → (good kindSlotOrder (List.replicate 11 0)).payload.length ≠ 1 + 2 * n) := by decide

theorem witness_requests_without_an_answer :
    arrivesDown (bodyFrame kindRequest (bad kindRequest [0x0400])) State.reset
      ∧ checkGood (bodyFrame kindRequest (bad kindRequest [0x0400])) = false
      ∧ arrivesDown (requestFrame 5 [0x0400]) (q4 State.reset) ∧ 4 ≤ (q4 State.reset).li.insert.length
      ∧ requestOf (.flip (req [0])) = some (9, req [0]) ∧ arrivesDown (rowFrame 9 (req [0])) (q4 State.reset)
      ∧ (q4 State.reset).param .logMode = 1 := by decide

theorem witness_unknown_requests :
    arrivesDown (requestFrame 5 [0]) (q3 State.reset) ∧ (q3 State.reset).li.insert.length ≤ 3 ∧ bits 0 10 6 = 0
      ∧ arrivesDown (requestFrame 5 [0x5800]) (q3 State.reset) ∧ 21 < bits 0x5800 10 6
      ∧ arrivesDown (requestFrame 5 []) (q3 State.reset) := by decide

/-- Requests with one fault each: a reserved bit, form 2, form 1 of a code that has none, a word too few. -/
def low1 : Request := { req [] with low := 1 }
def low512 : Request := { req [] with low := 512 }
def low256 : Request := { req [] with low := 256 }

theorem witness_unsound_requests :
    (requestOf (.copy low1) = some (8, low1) ∧ arrivesDown (rowFrame 8 low1) (q3 State.reset) ∧ low1.low.toNat % 256 ≠ 0)
      ∧ (requestOf (.copy low512) = some (8, low512) ∧ arrivesDown (rowFrame 8 low512) (q3 State.reset) ∧ 2 ≤ low512.low.toNat / 256)
      ∧ (requestOf (.copy low256) = some (8, low256) ∧ arrivesDown (rowFrame 8 low256) (q3 State.reset) ∧ low256.low.toNat / 256 = 1)
      ∧ (requestOf (.flip (req [])) = some (9, req []) ∧ arrivesDown (rowFrame 9 (req [])) (q3 State.reset)
        ∧ (req []).args.length + 1 ≠ 2) ∧ (q3 State.reset).li.insert.length ≤ 3 := by decide

/-- A request of a number of words, the second of them a count. -/
def words (n : Nat) (count : Word) : Request := req ((0 :: count :: List.replicate 28 0).take (n - 1))

/-- One request of each payload length of section 11.1, a word short or a word long of it. -/
theorem witness_wrong_lengths :
    ([(.identify (words 2 0), 1, words 2 0, 1), (.modeSet (words 3 0), 2, words 3 0, 2), (.mapRead (words 2 0), 16, words 2 0, 3),
      (.paramWrite (words 5 0), 3, words 5 0, 4), (.tableRead (words 4 0), 11, words 4 0, 5),
      (.curveOpen (words 6 0), 12, words 6 0, 5), (.headerWrite (words 5 0), 7, words 5 0, 6),
      (.chainWrite (words 11 0), 5, words 11 0, 12), (.ruleWrite (words 15 0), 6, words 15 0, 14),
      (.mapWrite (words 2 0), 15, words 2 0, 3), (.mapWrite (words 5 1), 15, words 5 1, 4)]
        : List (Instr × Nat × Request × Nat)).all (fun x =>
      requestOf x.1 == some (x.2.1, x.2.2.1) && decide (arrivesDown (rowFrame x.2.1 x.2.2.1) (q3 State.reset))
        && x.2.2.1.args.length + 1 != x.2.2.2) = true := by decide

theorem witness_outputs :
    (State.reset.held = false ∧ State.reset.li.transit = [] ∧ State.reset.li.insert = [] ∧ State.reset.li.downPath = [])
      ∧ ((t2 State.reset).li.transit = transit :: [transit] ∧ (t2 State.reset).li.insert = [] ∧ (t2 State.reset).held = false)
      ∧ ((q3 State.reset).li.insert = .response 0 [] :: List.replicate 2 (.response 0 []) ∧ (q3 State.reset).li.transit = []
        ∧ (q3 State.reset).held = false)
      ∧ (t2 (q3 State.reset)).li.lastServed = .transit
      ∧ (after .upstreamOutputFrame (t2 (q3 State.reset))).li.lastServed = .insert
      ∧ (State.reset.queueDown transit).li.downPath = transit :: [] := by decide

theorem witness_raises :
    (withQueue (List.replicate 2 (.response 0 [])) State.reset).li.insert.length ≤ 2 ∧ 3 ≤ (q3 State.reset).li.insert.length
      ∧ (State.reset.param .noticeLatch ≠ 1 ∧ (latched (0 : ClassSet)).param .noticeLatch = 1)
      ∧ ((latched 1).nu.pending &&& NoticeClass.zone.bit ≠ 0 ∧ (latched 1).nu.pending &&& NoticeClass.link.bit = 0)
      ∧ ((latched 1).enableSet &&& NoticeClass.link.bit = 0
        ∧ (withParam .noticeEnable 512 (latched 1)).enableSet &&& NoticeClass.link.bit ≠ 0) := by decide

/-- A state with ZONE pending and enabled, in either mode, with a queue. -/
def deliverable (latch : Int) (gs : List GovFrame) : State :=
  withQueue gs (withParam .noticeEnable 1 (withParam .noticeLatch latch (State.reset.withNu { pending := 1, owed := true })))

theorem witness_notices :
    (latched 1).nu.pending &&& (latched 1).enableSet = 0
      ∧ (deliverable 0 []).nu.pending &&& (deliverable 0 []).enableSet ≠ 0
      ∧ (GovFrame.notice 4 ∈ (deliverable 0 [.response 0 [], .notice 4]).li.insert ∧ (deliverable 1 [.notice 4]).nu.owed = true
        ∧ (deliverable 1 [.notice 4]).param .noticeLatch = 1)
      ∧ (deliverable 1 [.response 0 [], .response 0 []]).li.insert.length ≤ 2
      ∧ 3 ≤ (deliverable 1 (List.replicate 3 (.response 0 []))).li.insert.length
      ∧ State.reset.nu.owed = false ∧ (latched 1).nu.owed = true := by decide

theorem witness_no_notice_waits :
    ∀ x, GovFrame.notice x ∉ (deliverable 1 (List.replicate 3 (.response 0 []))).li.insert := by
  intro x h
  cases List.eq_of_mem_replicate h

theorem witness_records :
    logSound log511 ∧ log511.ol.fill + (Record.link .check 0).length ≤ 512
      ∧ 512 < log511.ol.fill + (Record.reading .board 0 0).length ∧ log511.param .logMode = 1
      ∧ logSound (withParam .logMode 0 log511) ∧ (withParam .logMode 0 log511).param .logMode = 0
      ∧ (Record.grant false 0 (List.replicate 4 { chain := 0, reason := .shed, value := .off }) 0).length ≤ 6 := by decide +kernel

/-- An empty log whose watermark is 1. -/
def empty1 : State := withParam .watermark 1 (State.reset.withOl ObservationLog.reset)

theorem witness_log_classes :
    logSound empty1 ∧ (empty1.ol.fill : Int) < empty1.param .watermark
      ∧ empty1.param .watermark ≤ (empty1.record (.link .check 0)).ol.fill
      ∧ ((withParam .grantDownsample 1 State.reset).ol.grantCounter % 2 ^ (withParam .grantDownsample 1 State.reset).paramNat .grantDownsample = 0)
      ∧ (State.reset.withOl { State.reset.ol with grantCounter := 1 }).ol.grantCounter
          % 2 ^ (withParam .grantDownsample 1 State.reset).paramNat .grantDownsample ≠ 0
      ∧ State.reset.param .readingLog = 8 ∧ (withParam .readingLog 7 State.reset).param .readingLog ≠ 8 := by decide

theorem witness_log_loss : log511.ol.lost = 0 ∧ 0 < (log511.record (.reading .board 0 0)).ol.lost := by decide +kernel

theorem witness_log_read :
    takes 18 (req [0]) (q3 State.reset) ∧ takes 18 (req [31]) (q3 State.reset) ∧ takes 18 (req [1]) (q3 State.reset)
      ∧ takes 18 (req [30]) (q3 State.reset) ∧ State.reset.ol.store = [.reset .powerOn 0] ++ []
      ∧ recordsLength [.reset .powerOn 0] + 4 ≤ (arg (req [5]).args 0).toNat
      ∧ (arg (req [4]).args 0).toNat < recordsLength [.reset .powerOn 0] + 4 ∧ takes 18 (req [5]) State.reset := by decide

theorem witness_log_flush :
    takes 19 (req []) (withQueue [] log511) ∧ takes 18 (req [4]) (after (.logFlush (req [])) log511)
      ∧ 4 ≤ (arg (req [4]).args 0).toNat ∧ (arg (req [30]).args 0).toNat ≤ 30 := by decide

theorem witness_identify : takes 1 (req []) (q3 State.reset) := by decide

theorem witness_mode_set :
    takes 2 (req [3]) (q3 State.reset) ∧ takes 2 (req [2]) (q3 State.reset) ∧ State.reset.cb.activeBank.hasPresent = false
      ∧ ((withFlip .quiet (withBank bankPlain State.reset)).cb.flip.isSome = true
        ∧ (withFlip .quiet (withBank bankPlain State.reset)).cb.standbyBank.hasPresent = false
        ∧ takes 2 (req [2]) (withFlip .quiet (withBank bankPlain State.reset)))
      ∧ (Mode.active.code = (arg (req [2]).args 0).toNat ∧ (withBank bankPlain State.reset).cb.activeBank.hasPresent = true
        ∧ (withBank bankPlain State.reset).cb.flip.isSome = false ∧ takes 2 (req [2]) (withBank bankPlain State.reset))
      ∧ (Mode.fixed.code = (arg (req [0]).args 0).toNat ∧ takes 2 (req [0]) State.reset) := by decide

theorem witness_param_write :
    (takes 3 (req [0, 0, 0]) (q3 State.reset) ∧ takes 3 (req [37, 0, 0]) State.reset)
      ∧ (takes 3 (req [34, 0, 9]) State.reset ∧ ParamId.readingLog.id = (arg (req [34, 0, 9]).args 0).toNat
        ∧ ownRow ParamId.readingLog.id = false ∧ ParamId.readingLog.enumerated = true
        ∧ ParamId.readingLog.range.2 < signed32 (arg (req [34, 0, 9]).args 1) (arg (req [34, 0, 9]).args 2))
      ∧ (takes 3 (req [34, 0, 8]) State.reset
        ∧ signed32 (arg (req [34, 0, 8]).args 1) (arg (req [34, 0, 8]).args 2) ≤ ParamId.readingLog.range.2
        ∧ ParamId.readingLog.range.1 ≤ signed32 (arg (req [34, 0, 8]).args 1) (arg (req [34, 0, 8]).args 2))
      ∧ (takes 3 (req [1, 0, 141]) State.reset ∧ ParamId.fixedCeiling.id = (arg (req [1, 0, 141]).args 0).toNat
        ∧ ownRow ParamId.fixedCeiling.id = false ∧ ParamId.fixedCeiling.enumerated = false) := by decide

theorem witness_param_read :
    takes 4 (req [0]) (q3 State.reset) ∧ takes 4 (req [37]) State.reset ∧ takes 4 (req [1]) State.reset
      ∧ ParamId.fixedCeiling.id = (arg (req [1]).args 0).toNat ∧ takes 4 (req [36]) State.reset
      ∧ ParamId.noticeLatch.id = (arg (req [36]).args 0).toNat := by decide

theorem witness_tick_code :
    takes 3 { req [0, 7] with args := paramArgs .tickCode [0, 7] } (q3 State.reset)
      ∧ takes 3 { req [0, 8] with args := paramArgs .tickCode [0, 8] } (q3 State.reset) := by decide

theorem witness_board_fallback :
    takes 3 { req [0, 600] with args := paramArgs .boardFallback [0, 600] } (withObs .board 276 1 State.reset)
      ∧ (withObs .board 276 1 State.reset).isFresh .board = true ∧ State.reset.isFresh .board = false
      ∧ takes 3 { req [0, 601] with args := paramArgs .boardFallback [0, 601] } State.reset := by decide

theorem witness_notice_parameters :
    (takes 3 { req [0, 1024] with args := paramArgs .noticeEnable [0, 1024] } State.reset ∧ 1023 < signed32 0 1024
        ∧ signed32 0xFFFF 0xFFFF < 0)
      ∧ (0 ≤ signed32 0 1023 ∧ signed32 0 1023 ≤ 1023 ∧ State.reset.param .noticeLatch ≠ 1)
      ∧ ((latched 1).param .noticeLatch = 1 ∧ BitVec.ofInt 10 (signed32 0 1) &&& ~~~ (latched 1).enableSet &&& (latched 1).nu.pending ≠ 0
        ∧ takes 3 { req [0, 1] with args := paramArgs .noticeEnable [0, 1] } (latched 1))
      ∧ (BitVec.ofInt 10 (signed32 0 2) &&& ~~~ (latched 1).enableSet &&& (latched 1).nu.pending = 0
        ∧ takes 3 { req [0, 2] with args := paramArgs .noticeEnable [0, 2] } (latched 1))
      ∧ (takes 3 { req [0, 2] with args := paramArgs .noticeLatch [0, 2] } State.reset ∧ signed32 0 2 ≠ 0 ∧ signed32 0 2 ≠ 1)
      ∧ (takes 3 { req [0, 1] with args := paramArgs .noticeLatch [0, 1] } (latched 1) ∧ signed32 0 1 = 1)
      ∧ (takes 3 { req [0, 0] with args := paramArgs .noticeLatch [0, 0] } (latched 1) ∧ signed32 0 0 = 0)
      ∧ takes 3 { req [0, 0] with args := paramArgs .noticeLatch [0, 0] } State.reset := by decide

/-- Words of a bank write: an index, a field-select word, and the fields. -/
def fields (index select : Word) (n : Nat) : List Word := index :: select :: List.replicate n 0

theorem witness_chain_write :
    (takes 5 (req (fields 4 0 9)) State.reset ∧ State.reset.cb.flip = none ∧ 4 ≤ (arg (req (fields 4 0 9)).args 0).toNat)
      ∧ (takes 5 (req [0, 1, 2, 0, 0, 0, 0, 0, 0, 0, 0]) State.reset
        ∧ codesGood (arg [0, 1, 2, 0, 0, 0, 0, 0, 0, 0, 0] 1) (([0, 1, 2, 0, 0, 0, 0, 0, 0, 0, 0] : List Word).drop 2) chainTests = false)
      ∧ (takes 5 (zreq (fields 3 0x1FF 9)) State.reset ∧ (arg (zreq (fields 3 0x1FF 9)).args 0).toNat < 4
        ∧ codesGood (arg (zreq (fields 3 0x1FF 9)).args 1) ((zreq (fields 3 0x1FF 9)).args.drop 2) chainTests = true)
      ∧ takes 5 (req (fields 0 0 9)) (q3 State.reset) := by decide

theorem witness_rule_and_header_writes :
    (takes 6 (req (fields 32 0 11)) State.reset ∧ 32 ≤ (arg (req (fields 32 0 11)).args 0).toNat)
      ∧ (takes 6 (req [0, 0x80, 0, 0, 0, 0, 0, 0, 0, 16, 0, 0, 0]) State.reset
        ∧ codesGood 0x80 (([0, 0x80, 0, 0, 0, 0, 0, 0, 0, 16, 0, 0, 0] : List Word).drop 2) ruleTests = false)
      ∧ (takes 6 (zreq (fields 31 0x7FF 11)) (q3 State.reset) ∧ (arg (zreq (fields 31 0x7FF 11)).args 0).toNat < 32
        ∧ codesGood (arg (zreq (fields 31 0x7FF 11)).args 1) ((zreq (fields 31 0x7FF 11)).args.drop 2) ruleTests = true)
      ∧ (takes 7 (req [1, 17, 0, 0, 0]) State.reset
        ∧ codesGood (arg (req [1, 17, 0, 0, 0]).args 0) ((req [1, 17, 0, 0, 0]).args.drop 1) headerTests = false)
      ∧ (takes 7 (zreq [15, 16, 17, 64, 2]) (q3 State.reset) ∧ State.reset.cb.flip = none
        ∧ codesGood (arg (zreq [15, 16, 17, 64, 2]).args 0) ((zreq [15, 16, 17, 64, 2]).args.drop 1) headerTests = true) := by decide

theorem witness_pending_flip :
    (withFlip .frame State.reset).cb.flip.isSome = true ∧ takes 5 (req (fields 0 0 9)) (withFlip .frame State.reset)
      ∧ takes 6 (req (fields 0 0 11)) (withFlip .frame State.reset) ∧ takes 7 (req [0, 0, 0, 0, 0]) (withFlip .frame State.reset)
      ∧ takes 8 (req []) (withFlip .frame State.reset) ∧ takes 9 (req [1]) (withFlip .frame State.reset) := by decide

theorem witness_copy :
    takes 8 (req []) (q3 state110) ∧ state110.cb.flip = none ∧ referencesSound (q3 state110)
      ∧ (withFlip .frame State.reset).cb.flip.isSome = true ∧ takes 8 (req []) (withFlip .frame State.reset) := by decide

/-- A standby bank whose second reference names an EMPTY slot. -/
def failing : State :=
  withStandby { Bank.empty with header := { Header.empty with supply := .slot 1, ceiling := .slot 9 } }
    (withSlot 1 (.valid { c1 with kind := .supply }) State.reset)

/-- The reference that fails. -/
def failingPlace : RefInForce := { place := 0, index := 0, field := 1, slot := 9, kind := .ceiling }

theorem witness_flip :
    (takes 9 (req [2]) State.reset ∧ 2 ≤ (arg (req [2]).args 0).toNat)
      ∧ (takes 9 (req [1]) failing ∧ failing.cb.flip = none
        ∧ failing.cb.standbyBank.refs = [{ place := 0, index := 0, field := 0, slot := 1, kind := .supply }] ++ failingPlace :: []
        ∧ failing.cs.satisfies { place := 0, index := 0, field := 0, slot := 1, kind := .supply } = true
        ∧ failing.cs.satisfies failingPlace = false)
      ∧ (takes 9 (req [0]) (withMode .active State.reset) ∧ (withMode .active State.reset).cb.standbyBank.refs = []
        ∧ (withMode .active State.reset).cb.standbyBank.hasPresent = false)
      ∧ (takes 9 (req [0]) (q3 State.reset) ∧ FlipPoint.frame.code = (arg (req [0]).args 0).toNat ∧ State.reset.cb.standbyBank.refs = [])
      ∧ (takes 9 (req [1]) State.reset.streamLive ∧ FlipPoint.quiet.code = (arg (req [1]).args 0).toNat
        ∧ State.reset.streamLive.ge.stream = .live)
      ∧ (takes 9 (req [1]) State.reset ∧ State.reset.ge.stream = .quiet ∧ State.reset.ge.mode ≠ .active) := by decide

/-- `sound` with chain 0 DETUNED, which the standby bank leaves absent. -/
def leaving : State := withChain 0 { ChainRecord.reset with state := .detuned } sound

theorem witness_flip_application :
    leaving.param .logMode = 1 ∧ leaving.cb.flip = some .quiet ∧ logSound leaving
      ∧ (leaving.cb.standbyBank.descriptor 0).present = false ∧ (leaving.ms.get 0).state ≠ .matched := by decide

theorem witness_flip_cancel :
    takes 10 (req []) (q3 State.reset) ∧ State.reset.cb.flip = none ∧ takes 10 (req []) (withFlip .frame State.reset)
      ∧ (withFlip .frame State.reset).cb.flip.isSome = true := by decide

theorem witness_table_reads :
    (takes 11 (req [2, 0, 0, 0]) State.reset ∧ takes 11 (req [0, 3, 0, 0]) State.reset)
      ∧ (takes 11 (req [0, 1, 0, 0]) State.reset ∧ takes 11 (req [0, 2, 0, 5]) State.reset ∧ takes 11 (req [0, 1, 1, 4]) State.reset
        ∧ takes 11 (req [0, 2, 29, 4]) State.reset)
      ∧ (takes 11 (req [1, 1, 0, 4]) (q3 State.reset) ∧ takes 11 (req [0, 2, 28, 4]) State.reset
        ∧ (takes 11 (req [0, 0, 0, 0]) (withFlip .quiet State.reset) ∧ (withFlip .quiet State.reset).cb.flip = some .quiet)
        ∧ ((State.reset.cb.bank State.reset.cb.standbyId).tableRun 1 0 4).isSome = true
        ∧ ((State.reset.cb.bank State.reset.cb.active).tableRun 2 28 4).isSome = true) := by decide

theorem witness_curve_and_map_reads :
    (takes 14 (req [16]) State.reset ∧ takes 14 (req [15]) (q3 State.reset))
      ∧ (takes 16 (req [0, 0]) State.reset ∧ takes 16 (req [1, 16]) State.reset ∧ takes 16 (req [0, 16]) (q3 State.reset)
        ∧ State.reset.inHand.intake = none) := by decide

theorem witness_curve_open :
    (takes 12 (req [16, 0, 0, 0]) State.reset ∧ takes 12 (req [0, 4, 0, 0]) State.reset)
      ∧ (takes 12 (req [1, 0, 0, 0]) state110 ∧ state110.pinned 1 = true)
      ∧ (takes 12 (req [15, 3, 0, 7]) (q3 State.reset) ∧ State.reset.pinned 15 = false
        ∧ CurveKind.supply.code = (arg (req [15, 3, 0, 7]).args 1).toNat ∧ State.reset.cs.cursor = none)
      ∧ (takes 12 (req [0, 0, 0, 0]) loading512 ∧ loading512.pinned 0 = false
        ∧ loading512.cs.cursor = some { slot := 6, cursor := 16 } ∧ (6 : Fin 16) ≠ 0
        ∧ loading512.cs.slots.get 6 = .loading { k1 with ys := (k1.ys.set 10 370).take 16 } ∧ loading512.param .logMode = 1) := by
  decide

/-- A slot that awaits its last value of K1. -/
def loadingK1 : State :=
  (withSlot 6 (.loading { k1 with ys := k1.ys.take 16 }) State.reset).withCs
    { (withSlot 6 (.loading { k1 with ys := k1.ys.take 16 }) State.reset).cs with cursor := some { slot := 6, cursor := 16 } }

theorem witness_curve_data :
    (takes 13 (req []) loadingK1 ∧ (takes 13 (req [1]) State.reset ∧ State.reset.cs.cursor = none))
      ∧ (takes 13 (req [940, 1]) loadingK1 ∧ loadingK1.cs.cursor = some { slot := 6, cursor := 16 }
        ∧ loadingK1.cs.slots.get 6 = .loading { k1 with ys := k1.ys.take 16 })
      ∧ (takes 13 (req (List.replicate 16 0)) (State.reset.startLoading 6 .heat 0 0)
        ∧ (State.reset.startLoading 6 .heat 0 0).cs.cursor = some { slot := 6, cursor := 0 }
        ∧ (State.reset.startLoading 6 .heat 0 0).cs.slots.get 6 = .loading { kind := .heat, x0 := 0, shift := 0, ys := [] })
      ∧ (takes 13 (req [940]) loadingK1 ∧ yRangeGood .current (k1.ys.take 16 ++ [940]) = true
        ∧ shapeGood .current (k1.ys.take 16 ++ [940]) = true)
      ∧ (takes 13 (req [4096]) loadingK1 ∧ yRangeGood .current (k1.ys.take 16 ++ [4096]) = false)
      ∧ (takes 13 (req [829]) loadingK1 ∧ yRangeGood .current (k1.ys.take 16 ++ [829]) = true
        ∧ shapeGood .current (k1.ys.take 16 ++ [829]) = false) := by decide

theorem witness_curve_evaluation :
    c1.ys.length = 17 ∧ (160 : Int) ≤ c1.x0 ∧ c1.x0 + 16 * 2 ^ c1.shift ≤ 416 ∧ (15 : Int) < 2 ^ c1.shift
      ∧ (415 : Int) = c1.x0 + (15 : Nat) * 2 ^ c1.shift + 15 ∧ shapeGood c1.kind c1.ys = true
      ∧ (∀ i, i ≤ 16 → 4 ≤ c1.y i ∧ c1.y i ≤ 92) ∧ (withCurves State.reset).cs.slots.get 1 = .valid c1 := by decide

theorem witness_map_write :
    (takes 15 (req [0, 0]) State.reset ∧ takes 15 (req (1 :: 16 :: List.replicate 16 0)) State.reset)
      ∧ (takes 15 (req [0, 1, 0xD000]) State.reset ∧ 0xD000 ∈ (req [0, 1, 0xD000]).args.drop 2 ∧ 12 < bits 0xD000 12 4)
      ∧ takes 15 (req (0 :: 16 :: List.replicate 16 0xC080)) (q3 State.reset) ∧ State.reset.inHand.intake = none := by decide

theorem witness_map_kinds :
    ∀ w ∈ (req (0 :: 16 :: List.replicate 16 0xC080)).args.drop 2, bits w 12 4 ≤ 12 := by
  intro w h
  rw [List.eq_of_mem_replicate h]
  decide

theorem witness_state_read :
    nothingInHand (q3 State.reset) ∧ takes 17 (req [5]) (q3 State.reset) ∧ takes 17 (req [0]) (q3 State.reset)
      ∧ takes 17 (req [4]) (q3 State.reset) := by decide

theorem witness_sections :
    (paramsInRange sound ∧ sound.cb.flip = some .quiet ∧ sound.ge.quietCount ≤ 255 ∧ sound.tg.counter ≤ 16777215 ∧ logSound sound
        ∧ sound.rh.softCount ≤ 255)
      ∧ (thermalSound sound ∧ -160 ≤ sound.boardRef ∧ sound.boardRef ≤ 600)
      ∧ (chainSound (sound.ms.get 1) = true ∧ (sound.ge.slew.get 1).age ≤ 255 ∧ -512 ≤ (sound.ms.get 1).lastRL
        ∧ (sound.ms.get 1).lastRL ≤ 340 ∧ -200 ≤ (sound.ge.slew.get 1).last ∧ (sound.ge.slew.get 1).last ≤ 140)
      ∧ (windowSound sound ∧ 0 ≤ sound.baseAllowance ∧ sound.baseAllowance ≤ 8191 ∧ 0 ≤ sound.allowance ∧ sound.allowance ≤ 8191)
      ∧ ((sound.obsOf .battV).fresh ≤ 255 ∧ -200 ≤ (sound.obsOf .battV).value ∧ (sound.obsOf .battV).value ≤ 4095) := by decide

theorem witness_notice_clear : takes 20 (req [1024]) State.reset ∧ takes 20 (req [1023]) (q3 State.reset) := by decide

/-- A log of 512 words. -/
def log512 : State := log511.record (.link .check 0)

theorem witness_soft_reset :
    takes 21 (req []) (q3 State.reset) ∧ nothingInHand (q3 State.reset) ∧ logSound (q3 State.reset)
      ∧ (takes 21 (req []) log511 ∧ nothingInHand log511 ∧ logSound log511 ∧ log511.ol.fill + 1 ≤ 512)
      ∧ (takes 21 (req []) log512 ∧ nothingInHand log512 ∧ logSound log512 ∧ log512.ol.fill = 512 ∧ log512.ol.lost = 0) := by
  decide +kernel

/-- A log of 383 words, one below the default watermark. -/
def log383 : State :=
  State.reset.withOl { State.reset.ol with store := List.replicate 127 (.zone .a .cool .warm 0 0) ++ [.reading .board 0 0], fill := 383 }

theorem witness_soft_reset_watermark :
    takes 21 (req []) log383 ∧ nothingInHand log383 ∧ logSound log383
      ∧ (after (.softReset (req [])) log383).nu.pending = NoticeClass.watermark.bit := by decide +kernel

theorem witness_resets :
    State.reset.pins.resetLow = false ∧ State.reset.pins.supplyOut = false
      ∧ (after .pinResetAssert State.reset).pins.resetLow = true ∧ (after .supplyOutOfRange State.reset).pins.supplyOut = true := by
  decide

theorem witness_ticks :
    (State.reset.held = false ∧ State.reset.pins.refclkAbsent = false ∧ State.reset.inHand.tick = InHand.reset.tick)
      ∧ (withOwed State.reset).inHand.tick.get .ms = true ∧ State.reset.inHand.tick.get .ms = false
      ∧ (after .refclkStop State.reset).pins.refclkAbsent = true ∧ (after .pinResetAssert State.reset).held = true
      ∧ State.reset.inHand.tick.any = false := by decide

theorem witness_tick_update :
    paramsInRange state29 ∧ state29.held = false ∧ state29.pins.refclkAbsent = false ∧ state29.inHand.tick.te = true ∧ Module.a ≠ .b := by decide

/-- A LIVE stream one tick before QUIET, a memory one tick before its expiry, and tick work owed. -/
def quieting : State :=
  withOwed ((State.reset.setSlew 1 { last := 84, valid := true, age := 7 }).withGe
    { (State.reset.setSlew 1 { last := 84, valid := true, age := 7 }).ge with stream := .live, quietCount := 3 })

/-- `quieting` after a slot order: the tick it owes does not count toward QUIET. -/
def ordered : State := quieting.streamLive

theorem witness_grant_engine_rows :
    State.reset.inHand.tick.ge = false ∧ (after .refclkStop State.reset).pins.refclkAbsent = true
      ∧ (ordered.inHand.tick.ordered = true ∧ ordered.inHand.tick.ge = true ∧ ordered.held = false
        ∧ ordered.pins.refclkAbsent = false ∧ (ordered.ge.slew.get 1).valid = true
        ∧ ordered.param .slewExpiry ≤ (ordered.ge.slew.get 1).age + 1)
      ∧ (quieting.inHand.tick.ge = true ∧ quieting.pins.refclkAbsent = false ∧ quieting.inHand.tick.ordered = false ∧ (quieting.ge.slew.get 1).valid = true
        ∧ quieting.param .slewExpiry ≤ (quieting.ge.slew.get 1).age + 1)
      ∧ ((withParam .quietTicks 5 quieting).ge.quietCount : Int) + 1 < (withParam .quietTicks 5 quieting).param .quietTicks
      ∧ (quieting.ge.stream = .live ∧ quieting.param .quietTicks ≤ quieting.ge.quietCount + 1 ∧ quieting.cb.flip ≠ some .quiet)
      ∧ (withFlip .quiet quieting).cb.flip = some .quiet := by decide

theorem witness_window_and_intake_rows :
    (State.reset.inHand.tick.sa = false ∧ State.reset.inHand.tick.ti = false)
      ∧ (after .refclkStop State.reset).pins.refclkAbsent = true ∧ window48.pins.refclkAbsent = false
      ∧ silent79.pins.refclkAbsent = false ∧ (window48.inHand.tick.sa = true ∧ window48.sa.counter ≤ 1)
      ∧ (silent79.inHand.tick.ti = true ∧ silent79.inHand.intake = none ∧ (silent79.obsOf .board).fresh = 1)
      ∧ ((withOwed (withObs .battV 9 1 State.reset)).obsOf .battV).fresh = 1
      ∧ ((withOwed (withObs .battV 9 1 State.reset)).obsOf .board).fresh ≠ 1 := by decide

theorem witness_mismatch_rows :
    State.reset.inHand.tick.ms = false ∧ (after .refclkStop State.reset).pins.refclkAbsent = true
      ∧ parking39.pins.refclkAbsent = false ∧ release39.pins.refclkAbsent = false ∧ recovery310.pins.refclkAbsent = false
      ∧ (parking39.inHand.tick.ms = true ∧ parking39.parkingDue 1 = true ∧ (parking39.ms.get 1).state = .severe
        ∧ (parking39.ms.get 1).improving = false ∧ parking39.param .severeLimit ≤ (parking39.ms.get 1).severe + 1)
      ∧ (release39.releaseDue 1 = true ∧ release39.inHand.tick.ms = true ∧ (release39.ms.get 1).state = .parked
        ∧ (release39.ms.get 1).park ≤ 1 ∧ 2 ≤ (sound.ms.get 1).park ∧ (sound.ms.get 1).state = .parked)
      ∧ (recovery310.recoveryDue 2 = true ∧ recovery310.inHand.tick.ms = true ∧ (recovery310.ms.get 2).improving = true
        ∧ recovery310.param .recoverTicks ≤ (recovery310.ms.get 2).recovery + 1 ∧ (recovery310.ms.get 2).state = .severe)
      ∧ (((withParam .severeLimit 5 parking39).ms.get 1).severe : Int) + 1 < (withParam .severeLimit 5 parking39).param .severeLimit
      ∧ ((withChain 2 { ChainRecord.reset with state := .detuned, improving := true, recovery := 15 } State.reset).recoveryDue 2
        = true) := by decide

/-- A state whose chain 0 is held at its floor of 40 above a thermal ceiling of 4. -/
def floorHold : State := withRise 1000 0 state110

/-- A frame-start order with slot 0, and a state whose flip it applies. -/
def startOrder : FrameBody := good kindSlotOrder [0x0C00]

theorem witness_governed_orders :
    (arrivesDown (bodyFrame kindSlotOrder order110) state110 ∧ checkGood (bodyFrame kindSlotOrder order110) = true
        ∧ orderLengthGood (bodyFrame kindSlotOrder order110).payload.length = true ∧ thermalSound state110
        ∧ state110.ge.mode ≠ .fixed)
      ∧ (arrivesDown (bodyFrame kindSlotOrder startOrder) (withFlip .frame State.reset)
        ∧ checkGood (bodyFrame kindSlotOrder startOrder) = true ∧ frameStart (bodyFrame kindSlotOrder startOrder).payload = true
        ∧ orderLengthGood (bodyFrame kindSlotOrder startOrder).payload.length = true ∧ thermalSound (withFlip .frame State.reset)
        ∧ (withFlip .frame State.reset).ge.mode = .fixed)
      ∧ (state110.grants (readEntries ((bodyFrame kindSlotOrder order110).payload.drop 1))).map Grant.value = [.on 66, .on 66]
      ∧ (after (.slotOrder order110) state110).sa.charge = state110.sa.charge
      ∧ (state111.grants (readEntries ((bodyFrame kindSlotOrder order111).payload.drop 1))).map Grant.reason
          = [.shed, .none, .duplicate]
      ∧ (floorHold.grants [readEntry 0x0080 92]).map Grant.reason = [.floor] := by decide

/-- The order of section 1.10 with its count out of turn, so that downsampling skips it, and with a rule that forces it. -/
def skipped110 : State :=
  withParam .grantDownsample 1 (state110.withOl { state110.ol with grantCounter := 1 })
def forced110 : State :=
  withBank { bank110 with rules := Bank.empty.rules.set 0 { Rule.empty with valid := true, backoff := 4, logAlways := true } } skipped110

/-- The order of section 1.10 with an allowance below its charge. -/
def charged110 : State := withParam .chargeAllowance 400 state110

theorem witness_order_records :
    (∀ g ∈ skipped110.grants (readEntries (order110.payload.drop 1)), g.logAlways = false)
      ∧ skipped110.ol.grantCounter % 2 ^ skipped110.paramNat .grantDownsample ≠ 0
      ∧ (after (.slotOrder order110) skipped110).ol
        = { skipped110.ol with grantCounter := 2 }
      ∧ (forced110.grants (readEntries (order110.payload.drop 1))).map Grant.logAlways = [true, true]
      ∧ newest (after (.slotOrder order110) charged110) = some (.charge .ok .capped 500 0)
      ∧ (withParam .grantNotes 1 state110).param .grantNotes = 1 ∧ state110.param .grantNotes ≠ 1 ∧ state110.li.insert.length ≤ 2
      ∧ 3 ≤ (q3 state110).li.insert.length ∧ (withMode .monitor state110).ge.mode = .monitor := by decide

/-- A class pending before an order that does not raise it: in MONITOR, where the would-be grants shed, and in ACTIVE, where
none does. -/
theorem witness_order_classes :
    (withMode .monitor state111).ge.mode ≠ .active
      ∧ (after (.slotOrder order111) ((withMode .monitor state111).withNu { pending := 4, owed := false })).nu.pending
          &&& NoticeClass.shed.bit ≠ 0
      ∧ (∀ g ∈ state110.grants (readEntries (order110.payload.drop 1)), g.reason ≠ .shed ∧ g.reason ≠ .floor)
      ∧ (after (.slotOrder order110) (state110.withNu { pending := 12, owed := false })).nu.pending = 12 := by decide

/-- R24: in MONITOR the would-be SHED raises no class. -/
theorem test_monitor_raises_no_shed : (after (.slotOrder order111) (withMode .monitor state111)).nu.pending = 0 := by decide

/-- R23: the note of the order of section 1.10. -/
theorem test_grant_note :
    (after (.slotOrder order110) (withParam .grantNotes 1 state110)).li.insert = [.grantNote [517, 0x0442, 0x9C42]] := by decide

/-- An entry of chain 0 that requests OFF, one that requests the fixed ceiling, one above it. -/
def entryOff : Entry := readEntry 0 512
def entry92 : Entry := readEntry 0 92
def entry93 : Entry := readEntry 0 93

theorem witness_fixed_mode :
    State.reset.ge.mode = .fixed ∧ [entryOff, entry92, entry93] = [entryOff, entry92] ++ entry93 :: []
      ∧ entryOff.request = .off ∧ entry93.request = .on 93 ∧ (∃ x ∈ [entryOff, entry92], x.chain = entry93.chain)
      ∧ [entry93, entry92] = [] ++ entry93 :: [entry92] ∧ State.reset.param .fixedCeiling < 93
      ∧ entry92.request = .on 92 ∧ ¬ State.reset.param .fixedCeiling < 92 := by decide

theorem witness_outgoing_powers :
    (state110.ge.mode = .active ∧ (withMode .monitor state110).ge.mode = .monitor)
      ∧ (entryOff.request = .off ∧ entry92.request = .on 92 ∧ (∃ x ∈ [entryOff], x.chain = entry92.chain))
      ∧ (state110.cb.activeBank.descriptor (readEntry 0x4000 92).chain).present = false
      ∧ ((withChain 0 { ChainRecord.reset with state := .parked, park := 1 } state110).ms.get entry92.chain).state = .parked
      ∧ (state110.cb.activeBank.descriptor entry92.chain).present = true
      ∧ (floorHold.grants [readEntry 0x0080 92]).map (outgoing .active) = [.on 40]
      ∧ leastCeiling floorHold (readEntry 0x0080 92) < 40
      ∧ ((state110.ge.slew.get 0).valid = true ∧ (state110.ge.slew.get 0).last = 68) := by decide

/-- Rule 0 of `bank110` governs an entry of waveform class 3, and does not govern one of class 0. -/
theorem witness_first_match :
    state110.cb.activeBank.rules.toList
        = [] ++ { Rule.empty with valid := true, waveforms := 8, backoff := 4 } :: List.replicate 31 Rule.empty
      ∧ governs state110 (readEntry 0x0300 92) { Rule.empty with valid := true, waveforms := 8, backoff := 4 }
      ∧ ¬ governs state110 entry92 { Rule.empty with valid := true, waveforms := 8, backoff := 4 }
      ∧ ¬ governs state110 entry92 Rule.empty := by
  unfold governs
  decide

/-- The stages: a value capped by slew, one below its floor, one at its request. -/
theorem witness_stages :
    (entry92.request = .on 92 ∧ entry92.chain ∉ ([] : List Chain) ∧ (state110.cb.activeBank.descriptor entry92.chain).present = true
        ∧ (state110.ms.get entry92.chain).state ≠ .parked)
      ∧ ((actionOf state110 entry92).ceiling = .default ∧ (state110.cb.activeBank.descriptor 0).ceiling = .slot 1
        ∧ (bankPlain.descriptor 0).ceiling = .none ∧ (state110.ms.get 2).state = .detuned)
      ∧ ((state110.stageEntry [] entry92).value = .on 66
        ∧ ((withRise 0 0 state110).stageEntry [] entry92).reason = .slew
        ∧ ((withRise 1000 0 state110).stageEntry [] entry92).reason = .shed
        ∧ ((withRise 1000 0 state110).stageEntry [] (readEntry 0x0080 92)).reason = .floor) := by decide

/-- Two entries that take part in fitting: the first fits at once, the second is lowered. -/
theorem witness_fitting :
    oneWorkingPerChain (state110.stageEntries [] [entry92, readEntry 0x8300 88])
      ∧ (state110.stageEntries [] [entry92, readEntry 0x8300 88, entryOff]).map Working.value = [.on 66, .on 74, .off]
      ∧ (state110.fitCurrent (state110.stageEntries [] [entry92, readEntry 0x8300 88])).map Working.value = [.on 66, .on 66] := by
  unfold oneWorkingPerChain
  decide

/-- A map in which channel k carries kind k, and BOARD is fresh. -/
def mapped : State :=
  withObs (.fwd 1) 80 32 (State.reset.withTi { State.reset.ti with
    map := State.reset.ti.map.mapIdx fun k _ => { kind := obsOfCode k, offset := 0 } })

theorem witness_telemetry :
    (arrivesUp (bodyFrame kindTelemetry (bad kindTelemetry [0])) State.reset ∧ State.reset.inHand.intake = none
        ∧ checkGood (bodyFrame kindTelemetry (bad kindTelemetry [0])) = false)
      ∧ (arrivesUp (bodyFrame kindTelemetry (good kindTelemetry [0])) State.reset
        ∧ checkGood (bodyFrame kindTelemetry (good kindTelemetry [0])) = true ∧ (good kindTelemetry [0]).payload.length ≤ 1
        ∧ 0 < (good kindTelemetry [0]).payload.length)
      ∧ (gap1.held = false ∧ gap1.inHand.intake.map Intake.rest = some [0x0112, 0x0112])
      ∧ ((mapped.obsOf .dieA).fresh = 0 ∧ (mapped.obsOf (.fwd 1)).fresh ≠ 0 ∧ mapped.param .logMode = 1)
      ∧ ((mapped.ti.map.get (readingChannel 0)).kind = none ∧ (mapped.ti.map.get (readingChannel 0x37FF)).kind = some .board
        ∧ readingRaw 0x37FF = 2047 ∧ readingRaw 0x3800 = -2048 ∧ readingRaw 0x37FE ≠ 2047 ∧ readingRaw 0x3801 ≠ -2048)
      ∧ ([0xC000, 0x4000, 0x8000, 0x3000, 0x1000, 0x2000].map (fun w => (mapped.ti.map.get (readingChannel w)).kind)
        = [some .battV, some (.fwd 0), some (.refl 0), some .board, some .dieA, some .dieB]) ∧ 1 ≤ mapped.param .staleTicks := by
  decide

/-- Chain 1 of `mapped` in a state with a confirm count. -/
def chainIn (st : MismatchState) (confirm : Nat) : State := withChain 1 { ChainRecord.reset with state := st, confirm := confirm } mapped

theorem witness_reflected :
    ((chainIn .parked 0).ms.get 1).state = .parked ∧ State.reset.isFresh (.fwd 1) = false
      ∧ ((withObs (.fwd 1) 39 1 mapped).obsOf (.fwd 1)).value < mapped.param .forwardFloor
      ∧ (mapped.isFresh (.fwd 1) = true ∧ mapped.param .forwardFloor ≤ (mapped.obsOf (.fwd 1)).value)
      ∧ (mapped.param .detuneThreshold ≤ (mapped.obsOf (.fwd 1)).value - 40
        ∧ (mapped.obsOf (.fwd 1)).value - 41 < mapped.param .detuneThreshold
        ∧ mapped.param .severeThreshold ≤ (mapped.obsOf (.fwd 1)).value - 64
        ∧ (mapped.obsOf (.fwd 1)).value - 65 < mapped.param .severeThreshold)
      ∧ ((((chainIn .matched 1).ms.get 1).confirm : Int) + 1 < mapped.param .confirm
        ∧ mapped.param .confirm ≤ ((chainIn .matched 2).ms.get 1).confirm + 1 ∧ ((chainIn .matched 2).ms.get 1).state = .matched)
      ∧ (((chainIn .detuned 2).ms.get 1).state = .detuned ∧ ((chainIn .severe 0).ms.get 1).state = .severe) := by decide

/-! ### Witnesses of the layouts, and of ticks that bring nothing about -/

/-- Fields at the ends of their ranges: a status word, a slot order's words, a power field, a parameter value. -/
theorem witness_word_fields :
    21 ≤ 63 ∧ ([0xF380, 0x0200] : List Word).length = 2 * 1 ∧ ([0xF380, 0x0200] : List Word)[2 * 0 + 1]? = some 0x0200
      ∧ (readEntries [0xF380, 0x0200])[0]? = some (readEntry 0xF380 0x0200)
      ∧ ((-512 - bits 0x0200 0 10 : Int) % 1024 = 0 ∧ (511 - bits 0x01FF 0 10 : Int) % 1024 = 0)
      ∧ (-2147483648 : Int) ≤ -160 := by decide

/-- Records with fields at the ends of their ranges. -/
theorem witness_layouts :
    (Record.words (.grant true 1023 (List.replicate 4 { chain := 3, reason := .shed, value := .off }) 0)).getD 0 0 = 0x1900
      ∧ (Record.words (.zone .b .cool .critical (-160) 65535)) = [0x2130, 0xFF60, 0xFFFF]
      ∧ (Record.words (.mismatch 3 .severe .parked (-512) 7)) = [0x33B0, 0xFE00, 7]
      ∧ (Record.words (.charge .ok .capped 268435440 7)) = [0x4001, 0x0FFF, 0xFFF0]
      ∧ (Record.words (.reading .battV 4095 7)) = [0x500C, 0x0FFF] ∧ (Record.words (.flip 1 .quiet 7)) = [0x6003, 7]
      ∧ (Record.words (.stale true .battV 7)) = [0x701C, 7] ∧ (Record.words (.link .droppedRequest 7)) = [0x8003]
      ∧ (Record.words (.curve 15 .abandoned 7)) = [0x903F] ∧ (Record.words (.reset .soft 7)) = [0xA002]
      ∧ timeRecord 16777215 65535 9 = [0xB0FF, 0xFFFF, 0xFFFF, 9] ∧ timeRecord 1 0 9 = [0xB000, 1, 0, 0] := by decide

/-- The descriptor, rule and header of a bank, a slot of each kind and a map entry, at the ends of their ranges. -/
def packedD : Descriptor := { chainOn .b 3 with rated := 140, floor := -200, rise := 32, ceiling := .none }
def packedR : Rule :=
  { Rule.empty with valid := true, backoff := 63, logAlways := true, anchor := .nonAnchor, shed := .forbid, ceiling := .slot 15 }

theorem witness_packed :
    (packedD.packed = [0xF08C, 0x8338, 0x4062] ∧ packedD.priority ≤ 3 ∧ packedD.rated ≤ 140 ∧ -200 ≤ packedD.floor
        ∧ packedD.rise ≤ 32)
      ∧ (packedR.packed = [0xFFFF, 0xFFFF, 0xD3FF] ∧ packedR.backoff ≤ 63)
      ∧ ({ Header.empty with backoff := 63 } : Header).packed = [0x0211, 0x003F]
      ∧ ((CurveSlot.valid c1).readWords true).take 5 = [0x0012, 160, 4, 17, 92]
      ∧ (CurveSlot.invalid .abandoned { k1 with ys := [] }).readWords false = [0x004F, 0, 3, 0]
      ∧ CurveSlot.empty.readWords true = [0x0010, 0, 0, 0]
      ∧ (c1.ys.length ≤ 17 ∧ c1.shift ≤ 7 ∧ ∀ y ∈ c1.ys, -32768 ≤ y ∧ y ≤ 32767)
      ∧ mapRun (State.reset.ti.map.set 15 { kind := some .battV, offset := -128 }) 15 1 = [0xCF80] := by decide

/-- The references in force of the bank of section 1.10, in the order of R121. -/
theorem witness_references :
    bank110.refs.map (fun r => (r.place, r.index, r.field)) = [(1, 0, 6), (1, 0, 7), (1, 0, 8), (1, 2, 6), (1, 2, 7), (1, 2, 8)]
      ∧ state110.pinned 1 = true ∧ state110.pinned 4 = false := by decide

/-- R44: WARM 240, HOT 250 and hysteresis 20, a HOT module stays at 235 and falls to COOL below 220. -/
theorem witness_zones :
    (240 : Int) < 250 ∧ (250 : Int) < 380 ∧ (0 : Int) ≤ 20 ∧ nextZone 235 240 250 380 20 .hot = .hot
      ∧ nextZone 229 240 250 380 20 .hot = .warm ∧ nextZone 219 240 250 380 20 .hot = .cool
      ∧ nextZone 400 240 250 380 20 .cool = .critical
      ∧ newest ((withRise 200 0 State.reset).evalZone .a) = some (.zone .a .cool .critical 380 0) := by decide

/-- The charge states at the edges of R82, with an allowance of 15, whose eighth is 1. -/
theorem witness_charges :
    8 * (1 : Int) ≤ 15 ∧ (15 : Int) < 8 * 1 + 8 ∧ nextCharge 15 15 .ok = .ok ∧ nextCharge 16 15 .ok = .capped
      ∧ nextCharge 15 15 .capped = .capped ∧ nextCharge 14 15 .capped = .ok := by decide

/-- Tick work owed, with nothing that it would bring about: a LIVE stream far from QUIET, an improving DETUNED chain far from
its recovery, a fresh count of 2. -/
def ordinary : State :=
  withObs .board 200 2 (withChain 1 { ChainRecord.reset with state := .detuned, improving := true, recovery := 3 }
    (withParam .quietTicks 9 (withParam .slewExpiry 9 quieting)))

theorem witness_ordinary_ticks :
    (ordinary.held = false ∧ ordinary.pins.refclkAbsent = false ∧ ordinary.inHand.tick = TickOwed.all
        ∧ ordinary.inHand.intake = none)
      ∧ (ordinary.ge.stream = .live ∧ (ordinary.ge.quietCount : Int) + 1 < ordinary.param .quietTicks
        ∧ ((after (.tick .deliver [.ge]) ordinary).ge.slew.get 1) = { last := 84, valid := true, age := 8 }
        ∧ (after (.tick .deliver [.ge]) ordinary).ge.quietCount = 4)
      ∧ (2 ≤ ordinary.sa.counter ∧ (after (.tick .deliver [.sa]) ordinary).sa.counter = 63)
      ∧ ((after (.tick .deliver [.ti]) ordinary).obsOf .board).fresh = 1
      ∧ ((ordinary.ms.get 1).state = .detuned ∧ ((ordinary.ms.get 1).recovery : Int) + 1 < ordinary.param .recoverTicks
        ∧ ((after (.tick .deliver [.ms]) ordinary).ms.get 1).recovery = 4 ∧ (ordinary.ms.get 0).state = .matched)
      ∧ logSound ordinary ∧ ordinary.param .logMode = 1 := by decide

theorem witness_no_kind_goes_stale : ∀ j : ObsKind, (ordinary.obsOf j).fresh ≠ 1 := by
  intro j
  cases j with
  | fwd c => revert c; decide
  | refl c => revert c; decide
  | _ => decide

/-- Tick work owed that writes records: BOARD and BATT_V go stale, a rotation releases the charge state, two chains change. -/
def eventful : State :=
  withOwed (withObs .board 600 1 (withObs .battV 9 1 (withChain 3 { ChainRecord.reset with state := .parked, park := 1, lastRL := 5 }
    (withChain 0 { ChainRecord.reset with state := .severe, improving := true, recovery := 15, lastRL := 30 }
      (State.reset.withSa { State.reset.sa with counter := 1, charge := .capped })))))

theorem witness_eventful_ticks :
    logSound eventful ∧ eventful.param .logMode = 1
      ∧ (after (.tick .deliver [.ti]) eventful).ol.store = [.reset .powerOn 0, .stale true .board 0, .stale true .battV 0]
      ∧ (after (.tick .deliver [.ms]) eventful).ol.store
          = [.reset .powerOn 0, .mismatch 0 .severe .detuned 30 0, .mismatch 3 .parked .detuned 5 0]
      ∧ newest (after .windowRotation eventful) = some (.charge .capped .ok 0 0) := by decide

end Sys2Proof.Tests
end

section
/-! PROOFS. What replacing the standby bank leaves and gives, when a FLIP's checks find nothing and which slots are pinned
with no flip pending, and COPY (R119). -/

namespace Sys2Proof.Machine

/-! ### Replacing the standby bank (R109) -/

@[simp] theorem ConfigBanks.setStandby_active (c : ConfigBanks) (b : Bank) : (c.setStandby b).active = c.active := by
  unfold ConfigBanks.setStandby
  split <;> rfl

@[simp] theorem ConfigBanks.setStandby_flip (c : ConfigBanks) (b : Bank) : (c.setStandby b).flip = c.flip := by
  unfold ConfigBanks.setStandby
  split <;> rfl

@[simp] theorem ConfigBanks.setStandby_standbyId (c : ConfigBanks) (b : Bank) : (c.setStandby b).standbyId = c.standbyId := by
  simp [ConfigBanks.standbyId]

/-- The bank written is the standby bank: bank 1 while bank 0 is active, and bank 0 otherwise. -/
@[simp] theorem ConfigBanks.setStandby_standbyBank (c : ConfigBanks) (b : Bank) : (c.setStandby b).standbyBank = b := by
  rw [ConfigBanks.standbyBank, ConfigBanks.setStandby_standbyId]
  by_cases h : c.active = 0 <;> simp [ConfigBanks.setStandby, ConfigBanks.standbyId, ConfigBanks.bank, h]

@[simp] theorem ConfigBanks.setStandby_activeBank (c : ConfigBanks) (b : Bank) :
    (c.setStandby b).activeBank = c.activeBank := by
  rw [ConfigBanks.activeBank, ConfigBanks.activeBank, ConfigBanks.setStandby_active]
  by_cases h : c.active = 0 <;> simp [ConfigBanks.setStandby, ConfigBanks.bank, h]

@[simp] theorem State.setStandbyBank_cb (s : State) (b : Bank) : (s.setStandbyBank b).cb = s.cb.setStandby b := rfl

/-! ### References in force (R102 to R104, R121) -/

/-- With no flip pending the standby bank pins nothing (R103). -/
theorem State.pinned_of_flip_none {s : State} (h : s.cb.flip = none) (n : Fin 16) :
    s.pinned n = s.cb.activeBank.refs.any fun r => r.slot == n := by
  simp [State.pinned, h]

theorem State.failingRef_eq_none_iff (s : State) :
    s.failingRef = none ↔ ∀ r ∈ s.cb.standbyBank.refs, s.cs.satisfies r = true := by
  simp [State.failingRef]

/-! ### The effect of COPY (R119) -/

theorem exec_copy (r : Request) (s : State) : exec (.copy r) s = .next (s.rowRequest 8 r copyEffect) := rfl

theorem copyEffect_of_pending {s : State} (h : s.cb.flip.isSome = true) : copyEffect s = (s, refuse .busy) := by
  simp [copyEffect, h]

theorem copyEffect_of_flip_none {s : State} (h : s.cb.flip = none) :
    copyEffect s = (s.setStandbyBank s.cb.activeBank, done false []) := by
  simp [copyEffect, h]

end Sys2Proof.Machine

namespace Sys2Proof.Safety

open Sys2Proof.Machine

/-- Hearing a frame moves the receiver alone, not the banks. -/
@[simp] theorem heard_cb (s : State) : (heard s).cb = s.cb := rfl

/-- The receiver and the banks are separate: a bank is replaced before or after the frame is heard. -/
theorem heard_setStandbyBank (s : State) (b : Bank) : (heard s).setStandbyBank b = heard (s.setStandbyBank b) := rfl

theorem exec_copy_of_pending {r : Request} {s : State} (ht : takes 8 r s) (h : s.cb.flip.isSome = true) :
    exec (.copy r) s = .next (answered r.tag 8 .busy false [] s) := by
  have hpending : (heard s).cb.flip.isSome = true := h
  rw [exec_copy, rowRequest_taken ht, copyEffect_of_pending hpending, refuse, heard_respond]

theorem exec_copy_of_flip_none {r : Request} {s : State} (ht : takes 8 r s) (h : s.cb.flip = none) :
    exec (.copy r) s = .next (answered r.tag 8 .ok false [] (s.setStandbyBank s.cb.activeBank)) := by
  have hnone : (heard s).cb.flip = none := h
  rw [exec_copy, rowRequest_taken ht, copyEffect_of_flip_none hnone, heard_cb, heard_setStandbyBank]
  exact congrArg Host.Outcome.next (heard_respond ..)

/-- While no flip is pending a write to the standby bank pins and frees no slot (R103, R119). -/
theorem pinned_setStandbyBank {s : State} (h : s.cb.flip = none) (b : Bank) (n : Fin 16) :
    (s.setStandbyBank b).pinned n = s.pinned n := by
  have hnone : (s.setStandbyBank b).cb.flip = none := by simp [h]
  rw [State.pinned_of_flip_none h, State.pinned_of_flip_none hnone, State.setStandbyBank_cb,
    ConfigBanks.setStandby_activeBank]

/-- The references of a copied bank are those of the active bank, which R104 holds VALID and of their kinds. -/
theorem failingRef_copied {s : State} (h : referencesSound s) : (s.setStandbyBank s.cb.activeBank).failingRef = none := by
  obtain ⟨hactive, -⟩ := h
  rw [State.failingRef_eq_none_iff]
  simpa using hactive

/-- Settles O38: the row's effect from `rowRequest_taken`, the banks from the laws of `setStandby`, and the checks of a
FLIP from R104 for the active bank. -/
theorem copyMakesTheBanksEqual : Obligations.CopyMakesTheBanksEqual := by
  intro r s ht
  refine ⟨exec_copy_of_pending ht, fun hflip => ⟨_, rfl, exec_copy_of_flip_none ht hflip, ?_⟩⟩
  have hstandby : (s.setStandbyBank s.cb.activeBank).cb.standbyBank = s.cb.activeBank := by simp
  exact ⟨hstandby, by simp, by simp, pinned_setStandbyBank hflip _, failingRef_copied, by rw [hstandby]⟩

end Sys2Proof.Safety
end

section
/-! PROOFS. LOG FLUSH (R159), and the LOG READ of an empty log (R158) that follows it. -/

namespace Sys2Proof.Machine

/-! ### The effects of LOG FLUSH and of LOG READ on an empty log (R158, R159) -/

theorem exec_logRead (r : Request) (s : State) : exec (.logRead r) s = .next (s.rowRequest 18 r (logReadEffect r.args)) := rfl

theorem exec_logFlush (r : Request) (s : State) : exec (.logFlush r) s = .next (s.rowRequest 19 r logFlushEffect) := rfl

@[simp] theorem recordsLength_nil : recordsLength [] = 0 := rfl

@[simp] theorem recordsWords_nil : recordsWords [] = [] := rfl

@[simp] theorem takeRecords_nil (room : Nat) : takeRecords room [] = ([], []) := rfl

/-- A read of an empty log with room for 4 words returns a TIME record alone and clears the loss data (R158). -/
theorem logReadEffect_of_empty {args : List Word} {s : State} (hempty : s.ol.store = [])
    (hroom : 4 ≤ (arg args 0).toNat) (hmax : (arg args 0).toNat ≤ 30) :
    logReadEffect args s = (s.withOl { s.ol with lost := 0, firstLoss := 0 },
      { status := .ok, more := false, words := timeRecord s.tg.counter s.ol.lost s.ol.firstLoss }) := by
  have hrange : ¬ ((arg args 0).toNat < 1 ∨ 30 < (arg args 0).toNat) := by omega
  simp only [logReadEffect, if_neg hrange]
  simp [hempty, hroom]

end Sys2Proof.Machine

namespace Sys2Proof.Safety

open Sys2Proof.Machine

/-! ### The log beside the receiver and the insert queue -/

@[simp] theorem heard_ol (s : State) : (heard s).ol = s.ol := rfl

@[simp] theorem heard_tg (s : State) : (heard s).tg = s.tg := rfl

/-- The receiver and the log are separate: the log is changed before or after the frame is heard. -/
theorem heard_withOl (s : State) (x : ObservationLog) : (heard s).withOl x = heard (s.withOl x) := rfl

@[simp] theorem answered_ol (tag : BitVec 4) (code : Nat) (st : Status) (more : Bool) (words : List Word) (s : State) :
    (answered tag code st more words s).ol = s.ol := rfl

@[simp] theorem answered_tg (tag : BitVec 4) (code : Nat) (st : Status) (more : Bool) (words : List Word) (s : State) :
    (answered tag code st more words s).tg = s.tg := rfl

/-! ### LOG FLUSH, and a LOG READ of an empty log, as rows -/

theorem exec_logFlush_of_takes {r : Request} {s : State} (ht : takes 19 r s) :
    exec (.logFlush r) s = .next (answered r.tag 19 .ok false [] (s.withOl { s.ol with store := [], fill := 0 })) := by
  rw [exec_logFlush, rowRequest_taken ht, logFlushEffect, heard_ol, heard_withOl]
  exact congrArg Host.Outcome.next (heard_respond ..)

theorem exec_logRead_of_empty {q : Request} {t : State} (ht : takes 18 q t) (hempty : t.ol.store = [])
    (hroom : 4 ≤ (arg q.args 0).toNat) (hmax : (arg q.args 0).toNat ≤ 30) :
    exec (.logRead q) t = .next (answered q.tag 18 .ok false (timeRecord t.tg.counter t.ol.lost t.ol.firstLoss)
      (t.withOl { t.ol with lost := 0, firstLoss := 0 })) := by
  have hheard : (heard t).ol.store = [] := hempty
  rw [exec_logRead, rowRequest_taken ht, logReadEffect_of_empty hheard hroom hmax, heard_ol, heard_tg, heard_withOl,
    heard_respond]

/-- Settles O27: the flush leaves the log empty and the loss data as they stood, so the read that follows is the read of an
empty log. -/
theorem logFlushEmptiesTheStore : Obligations.LogFlushEmptiesTheStore := by
  intro r s htakes
  have hflush := exec_logFlush_of_takes htakes
  refine ⟨hflush, fun q t hnext hread hroom hmax => ?_⟩
  obtain rfl : answered r.tag 19 .ok false [] (s.withOl { s.ol with store := [], fill := 0 }) = t :=
    Host.Outcome.next.inj (hflush.symm.trans hnext)
  exact exec_logRead_of_empty hread rfl hroom hmax

end Sys2Proof.Safety
end

section
/-! PROOFS. The rows that only read: IDENTIFY (R175) and PARAM READ (R178). -/

namespace Sys2Proof.Machine

/-! ### The effects of IDENTIFY and of PARAM READ (R175, R178) -/

theorem exec_identify (r : Request) (s : State) : exec (.identify r) s = .next (s.rowRequest 1 r identifyEffect) := rfl

theorem exec_paramRead (r : Request) (s : State) :
    exec (.paramRead r) s = .next (s.rowRequest 4 r (paramReadEffect r.args)) := rfl

theorem paramReadEffect_of_ofId_none {args : List Word} (h : ParamId.ofId (arg args 0).toNat = none) (s : State) :
    paramReadEffect args s = (s, refuse .range) := by
  simp [paramReadEffect, h]

theorem paramReadEffect_of_ofId_some {args : List Word} {p : ParamId} (h : ParamId.ofId (arg args 0).toNat = some p)
    (s : State) : paramReadEffect args s = (s, done false (paramWords p (s.param p))) := by
  simp [paramReadEffect, h]

/-- The id word of a PARAM READ's results is the operand word that named the parameter. -/
theorem paramWords_of_id_eq {p : ParamId} {w : Word} (h : p.id = w.toNat) (v : Int) : paramWords p v = w :: words32 v := by
  have hword : Word.ofNatural p.id = w := by simp [Word.ofNatural, h]
  rw [paramWords, hword]

end Sys2Proof.Machine

namespace Sys2Proof.Safety

open Sys2Proof.Machine

/-- Hearing a frame moves the receiver alone, not the parameters. -/
@[simp] theorem heard_param (s : State) (p : ParamId) : (heard s).param p = s.param p := rfl

/-- A taken row whose effect changes no state answers, and leaves the rest as it stood (R174). -/
theorem rowRequest_of_unchanged {code : Nat} {r : Request} {s : State} (ht : takes code r s) {effect : State → State × Reply}
    {reply : Reply} (heffect : effect (heard s) = (heard s, reply)) :
    s.rowRequest code r effect = answered r.tag code reply.status reply.more reply.words s := by
  rw [rowRequest_taken ht, heffect]
  exact heard_respond ..

/-- Settles O28: IDENTIFY's effect changes no state in any state, so the row only answers. -/
theorem identifyReturnsThePart : Obligations.IdentifyReturnsThePart := by
  intro r s ht
  rw [exec_identify, rowRequest_of_unchanged ht (effect := identifyEffect) rfl]
  rfl

/-- Settles O31: the id outside 1..36 names no parameter and is refused; any other names its own, whose value hearing the
frame leaves as it stood. -/
theorem paramReadReturnsTheStoredValue : Obligations.ParamReadReturnsTheStoredValue := by
  intro r s ht
  refine ⟨fun hrange => ?_, fun p hid => ?_⟩
  · have hnone := ofId_none _ hrange
    rw [exec_paramRead, rowRequest_of_unchanged ht (paramReadEffect_of_ofId_none hnone _)]
    rfl
  · have hsome : ParamId.ofId (arg r.args 0).toNat = some p := hid ▸ ofId_id p
    rw [exec_paramRead, rowRequest_of_unchanged ht (paramReadEffect_of_ofId_some hsome _), heard_param,
      paramWords_of_id_eq hid]
    rfl

end Sys2Proof.Safety
end

section
/-! PROOFS. The Notice Unit and the Observation Log: which classes stand raised after each notice operation (R161, R162),
what a record does to the log (R155 to R157), and that both leave everything else as it was. -/

namespace Sys2Proof.Machine

/-! ### The bit of a notice class -/

/-- The place of a class's bit (section 9.6). -/
def NoticeClass.place : NoticeClass → Nat
  | .zone => 0
  | .mismatch => 1
  | .shed => 2
  | .floor => 3
  | .charge => 4
  | .watermark => 5
  | .loss => 6
  | .flip => 7
  | .stale => 8
  | .link => 9

theorem NoticeClass.bit_eq_twoPow (c : NoticeClass) : c.bit = BitVec.twoPow 10 c.place := by
  cases c <;> rfl

theorem NoticeClass.place_lt (c : NoticeClass) : c.place < 10 := by
  cases c <;> decide

theorem NoticeClass.place_injective {c d : NoticeClass} (h : c.place = d.place) : c = d := by
  cases c <;> cases d <;> first | rfl | exact absurd h (by decide)

/-- A set holds a class when the class's bit is 1 in it. -/
theorem and_bit_ne_zero_iff (x : ClassSet) (c : NoticeClass) : x &&& c.bit ≠ 0 ↔ x.getLsbD c.place = true := by
  rw [NoticeClass.bit_eq_twoPow, BitVec.and_twoPow]
  have hbit : BitVec.twoPow 10 c.place ≠ 0#10 := by cases c <;> decide
  cases x.getLsbD c.place <;> simp [hbit]

theorem and_bit_eq_zero_iff (x : ClassSet) (c : NoticeClass) : x &&& c.bit = 0 ↔ x.getLsbD c.place = false := by
  rw [← Bool.not_eq_true, ← and_bit_ne_zero_iff, Classical.not_not]

theorem getLsbD_or_bit (x : ClassSet) (c d : NoticeClass) :
    (x ||| d.bit).getLsbD c.place = (x.getLsbD c.place || decide (c = d)) := by
  rw [BitVec.getLsbD_or, NoticeClass.bit_eq_twoPow, BitVec.getLsbD_twoPow]
  by_cases h : c = d
  · simp [h, NoticeClass.place_lt]
  · have hne : ¬ d.place = c.place := fun e => h (NoticeClass.place_injective e.symm)
    simp [h, hne]

/-! ### The NOTICE that waits, and the room for one -/

theorem State.noticeWaits_iff (s : State) : s.noticeWaits = true ↔ ∃ x, GovFrame.notice x ∈ s.li.insert := by
  rw [State.noticeWaits, List.any_eq_true]
  constructor
  · rintro ⟨g, hg, hn⟩
    cases g with
    | notice x => exact ⟨x, hg⟩
    | response _ _ => cases hn
    | grantNote _ => cases hn
  · rintro ⟨x, hx⟩
    exact ⟨_, hx, rfl⟩

theorem State.not_noticeWaits_iff (s : State) : ¬ s.noticeWaits = true ↔ ∀ x, GovFrame.notice x ∉ s.li.insert := by
  rw [State.noticeWaits_iff, not_exists]

theorem State.notePlace_iff (s : State) : s.notePlace = true ↔ s.li.insert.length ≤ 2 := by
  simp [State.notePlace]

theorem State.not_notePlace_iff (s : State) : ¬ s.notePlace = true ↔ 3 ≤ s.li.insert.length := by
  rw [State.notePlace_iff]
  omega

theorem State.latched_iff (s : State) : s.latched = true ↔ s.param .noticeLatch = 1 := by
  simp [State.latched]

theorem State.not_latched_iff (s : State) : ¬ s.latched = true ↔ s.param .noticeLatch ≠ 1 := by
  rw [State.latched_iff]

end Sys2Proof.Machine

namespace Sys2Proof.Safety

open Sys2Proof.Machine

/-! ### States that differ in the log, the Notice Unit and the insert queue alone -/

theorem logsOnly.refl (s : State) : logsOnly s s := rfl

theorem logsOnly.trans {s t u : State} (hst : logsOnly s t) (htu : logsOnly t u) : logsOnly s u := by
  unfold logsOnly at hst htu ⊢
  rw [htu, hst]

theorem logsOnly_withNu (s : State) (x : NoticeUnit) : logsOnly s (s.withNu x) := rfl

theorem logsOnly_withOl (s : State) (x : ObservationLog) : logsOnly s (s.withOl x) := rfl

theorem logsOnly_noticeTest (s : State) : logsOnly s s.noticeTest := by
  unfold State.noticeTest
  (repeat' split) <;> rfl

theorem logsOnly_noticeCall (s : State) : logsOnly s s.noticeCall := by
  unfold State.noticeCall
  (repeat' split) <;> rfl

theorem logsOnly_raise (s : State) (c : NoticeClass) : logsOnly s (s.raise c) := by
  unfold State.raise
  repeat' split
  · exact .refl s
  · exact (logsOnly_withNu s _).trans (logsOnly_noticeCall _)
  · exact logsOnly_withNu s _
  · exact (logsOnly_withNu s _).trans (logsOnly_noticeTest _)

theorem logsOnly_record (s : State) (r : Record) : logsOnly s (s.record r) := by
  simp only [State.record]
  have hlog := logsOnly_withOl s (s.ol.append (s.param .logMode == 1) s.stamp r).log
  repeat' split
  · exact (hlog.trans (logsOnly_raise _ _)).trans (logsOnly_raise _ _)
  · exact hlog.trans (logsOnly_raise _ _)
  · exact hlog.trans (logsOnly_raise _ _)
  · exact hlog

theorem logsOnly_linkFault (s : State) (e : LinkError) : logsOnly s (s.linkFault e) :=
  (logsOnly_record s _).trans (logsOnly_raise _ _)

theorem logsOnly_offerGrant (s : State) (r : Record) (forced : Bool) : logsOnly s (s.offerGrant r forced) := by
  simp only [State.offerGrant]
  repeat' split
  · exact (logsOnly_withOl s _).trans (logsOnly_record _ _)
  · exact logsOnly_withOl s _

theorem logsOnly_offerReading (s : State) (k : ObsKind) (v : Int) : logsOnly s (s.offerReading k v) := by
  simp only [State.offerReading]
  repeat' split
  · exact .refl s
  · exact (logsOnly_withOl s _).trans (logsOnly_record _ _)
  · exact logsOnly_withOl s _

/-! ### Classes that stand raised (R161, R162) -/

/-- A class stands in a NOTICE of an insert queue. -/
def inNotice (c : NoticeClass) (q : List GovFrame) : Prop := ∃ d, GovFrame.notice d ∈ q ∧ d.getLsbD c.place = true

theorem raised_iff (c : NoticeClass) (s : State) :
    raised c s ↔ s.nu.pending.getLsbD c.place = true ∨ inNotice c s.li.insert := by
  simp only [raised, inNotice, and_bit_ne_zero_iff]

theorem notice_mem_mergeInto_iff (q : List GovFrame) (d x : ClassSet) :
    GovFrame.notice x ∈ q.map (mergeInto d) ↔ ∃ y, GovFrame.notice y ∈ q ∧ y ||| d = x := by
  rw [List.mem_map]
  constructor
  · rintro ⟨g, hg, he⟩
    cases g with
    | notice y => exact ⟨y, hg, GovFrame.notice.inj he⟩
    | response _ _ => cases he
    | grantNote _ => cases he
  · rintro ⟨y, hy, rfl⟩
    exact ⟨_, hy, rfl⟩

/-- Merging adds the merged classes to a NOTICE that waits, and loses none. -/
theorem inNotice_mergeInto_iff {q : List GovFrame} (hq : ∃ x, GovFrame.notice x ∈ q) (c : NoticeClass) (d : ClassSet) :
    inNotice c (q.map (mergeInto d)) ↔ inNotice c q ∨ d.getLsbD c.place = true := by
  obtain ⟨x, hx⟩ := hq
  simp only [inNotice, notice_mem_mergeInto_iff]
  constructor
  · rintro ⟨_, ⟨y, hy, rfl⟩, hbit⟩
    rw [BitVec.getLsbD_or, Bool.or_eq_true] at hbit
    exact hbit.imp (fun h => ⟨y, hy, h⟩) id
  · rintro (⟨y, hy, hbit⟩ | hbit)
    · exact ⟨_, ⟨y, hy, rfl⟩, by simp [hbit]⟩
    · exact ⟨_, ⟨x, hx, rfl⟩, by simp [hbit]⟩

theorem inNotice_append_notice_iff (c : NoticeClass) (q : List GovFrame) (d : ClassSet) :
    inNotice c (q ++ [.notice d]) ↔ inNotice c q ∨ d.getLsbD c.place = true := by
  simp [inNotice, or_and_right, exists_or]

/-- A class of a delivered set is in the pending set it is taken from. -/
theorem pending_of_deliverable {s : State} {c : NoticeClass} (h : s.deliverable.getLsbD c.place = true) :
    s.nu.pending.getLsbD c.place = true := by
  simp only [State.deliverable, BitVec.getLsbD_and, Bool.and_eq_true] at h
  exact h.1

/-- A class pending is still pending once the delivered ones are removed, or was delivered. -/
theorem pending_removed_iff (s : State) (c : NoticeClass) :
    ((s.nu.pending &&& ~~~ s.deliverable).getLsbD c.place = true ∨ s.deliverable.getLsbD c.place = true)
      ↔ s.nu.pending.getLsbD c.place = true := by
  have hplace := NoticeClass.place_lt c
  have hsub := pending_of_deliverable (s := s) (c := c)
  simp only [BitVec.getLsbD_and, BitVec.getLsbD_not, hplace, decide_true, Bool.true_and, Bool.and_eq_true,
    Bool.not_eq_true']
  cases hdeliver : s.deliverable.getLsbD c.place with
  | true => exact iff_of_true (.inr rfl) (hsub hdeliver)
  | false => simp only [and_true, Bool.false_eq_true, or_false]

/-- The NON_LATCHED test delivers classes, and raises and loses none. -/
theorem raised_noticeTest_iff (c : NoticeClass) (s : State) : raised c s.noticeTest ↔ raised c s := by
  unfold State.noticeTest
  repeat' split
  · exact Iff.rfl
  · rename_i hwaits
    have hmerge := inNotice_mergeInto_iff ((State.noticeWaits_iff s).1 hwaits) c s.deliverable
    simp only [raised_iff, ← pending_removed_iff s c]
    simp only [State.mergeNotice, State.withNu_nu, State.withNu_li, State.withLi_li, hmerge]
    grind
  · simp only [raised_iff, ← pending_removed_iff s c]
    simp only [State.queueGov, State.withNu_nu, State.withNu_li, State.withLi_li, inNotice_append_notice_iff]
    grind
  · exact Iff.rfl

/-- A call in LATCHED mode raises and loses no class. -/
theorem raised_noticeCall_iff (c : NoticeClass) (s : State) : raised c s.noticeCall ↔ raised c s := by
  have hsub := pending_of_deliverable (s := s) (c := c)
  unfold State.noticeCall
  repeat' split
  · rename_i hwaits
    have hmerge := inNotice_mergeInto_iff ((State.noticeWaits_iff s).1 hwaits) c s.deliverable
    simp only [raised_iff, State.mergeNotice, State.withLi_nu, State.withLi_li, hmerge]
    grind
  · simp only [raised_iff, State.queueGov, State.withLi_nu, State.withLi_li, inNotice_append_notice_iff]
    grind
  · exact Iff.rfl

theorem raised_withPending_iff (c d : NoticeClass) (s : State) :
    raised c (s.withNu { s.nu with pending := s.nu.pending ||| d.bit }) ↔ raised c s ∨ c = d := by
  simp only [raised_iff, State.withNu_nu, State.withNu_li, getLsbD_or_bit, Bool.or_eq_true, decide_eq_true_eq]
  exact or_right_comm

/-- A raise adds its class to those that stand raised, and loses none. -/
theorem raised_raise_iff (c d : NoticeClass) (s : State) : raised c (s.raise d) ↔ raised c s ∨ c = d := by
  unfold State.raise
  repeat' split
  · constructor
    · exact Or.inl
    · rintro (h | rfl)
      · exact h
      · rename_i hpending
        exact Or.inl hpending
  · rw [raised_noticeCall_iff, raised_withPending_iff]
  · exact raised_withPending_iff c d s
  · rw [raised_noticeTest_iff, raised_withPending_iff]

theorem raised_raise_self (c : NoticeClass) (s : State) : raised c (s.raise c) := (raised_raise_iff c c s).2 (.inr rfl)

theorem raised_raise {c : NoticeClass} {s : State} (h : raised c s) (d : NoticeClass) : raised c (s.raise d) :=
  (raised_raise_iff c d s).2 (.inl h)

/-- The classes that stand raised are read from the Notice Unit and the insert queue. -/
theorem raised_congr {c : NoticeClass} {s t : State} (hnu : t.nu = s.nu) (hli : t.li.insert = s.li.insert) :
    raised c t ↔ raised c s := by
  simp only [raised, hnu, hli]

/-- A record raises LOSS and WATERMARK at most, and loses no class. -/
theorem raised_record_iff_of_ne {c : NoticeClass} (hloss : c ≠ .loss) (hwater : c ≠ .watermark) (s : State) (r : Record) :
    raised c (s.record r) ↔ raised c s := by
  have hlog : raised c (s.withOl (s.ol.append (s.param .logMode == 1) s.stamp r).log) ↔ raised c s := raised_congr rfl rfl
  simp only [State.record]
  repeat' split
  · simp only [raised_raise_iff, hloss, hwater, or_false, hlog]
  · simp only [raised_raise_iff, hwater, or_false, hlog]
  · simp only [raised_raise_iff, hloss, or_false, hlog]
  · exact hlog

theorem raised_record {c : NoticeClass} {s : State} (h : raised c s) (r : Record) : raised c (s.record r) := by
  have hlog : raised c (s.withOl (s.ol.append (s.param .logMode == 1) s.stamp r).log) := h
  simp only [State.record]
  repeat' split
  · exact raised_raise (raised_raise hlog _) _
  · exact raised_raise hlog _
  · exact raised_raise hlog _
  · exact hlog

theorem raised_linkFault_link (e : LinkError) (s : State) : raised .link (s.linkFault e) := raised_raise_self _ _

/-! ### The Notice Unit's operations, case by case (R161, R162) -/

theorem raise_of_not_latched {s : State} (h : s.param .noticeLatch ≠ 1) (c : NoticeClass) :
    s.raise c = (s.withNu { s.nu with pending := s.nu.pending ||| c.bit }).noticeTest := by
  rw [State.raise, if_neg ((State.not_latched_iff s).2 h)]

theorem raise_of_pending {s : State} {c : NoticeClass} (h : s.param .noticeLatch = 1) (hp : s.nu.pending &&& c.bit ≠ 0) :
    s.raise c = s := by
  rw [State.raise, if_pos ((State.latched_iff s).2 h), if_pos hp]

theorem raise_of_not_enabled {s : State} {c : NoticeClass} (h : s.param .noticeLatch = 1) (hp : s.nu.pending &&& c.bit = 0)
    (he : s.enableSet &&& c.bit = 0) : s.raise c = s.withNu { s.nu with pending := s.nu.pending ||| c.bit } := by
  rw [State.raise, if_pos ((State.latched_iff s).2 h), if_neg (Classical.not_not.2 hp), if_neg (Classical.not_not.2 he)]

theorem raise_of_enabled {s : State} {c : NoticeClass} (h : s.param .noticeLatch = 1) (hp : s.nu.pending &&& c.bit = 0)
    (he : s.enableSet &&& c.bit ≠ 0) :
    s.raise c = (s.withNu { s.nu with pending := s.nu.pending ||| c.bit }).noticeCall := by
  rw [State.raise, if_pos ((State.latched_iff s).2 h), if_neg (Classical.not_not.2 hp), if_pos he]

theorem noticeDeparture_of_not_latched {s : State} (h : s.param .noticeLatch ≠ 1) : s.noticeDeparture = s.noticeTest := by
  rw [State.noticeDeparture, if_neg ((State.not_latched_iff s).2 h)]

theorem noticeTest_of_none {s : State} (h : s.deliverable = 0) : s.noticeTest = s := by
  rw [State.noticeTest, if_pos h]

theorem noticeTest_of_waiting {s : State} (h : s.deliverable ≠ 0) (hw : ∃ x, GovFrame.notice x ∈ s.li.insert) :
    s.noticeTest = { s with
      nu := { s.nu with pending := s.nu.pending &&& ~~~ s.deliverable }
      li := { s.li with insert := s.li.insert.map (mergeInto s.deliverable) } } := by
  rw [State.noticeTest, if_neg h, if_pos ((State.noticeWaits_iff s).2 hw)]
  rfl

theorem noticeTest_of_place {s : State} (h : s.deliverable ≠ 0) (hw : ∀ x, GovFrame.notice x ∉ s.li.insert)
    (hp : s.li.insert.length ≤ 2) :
    s.noticeTest = { s with
      nu := { s.nu with pending := s.nu.pending &&& ~~~ s.deliverable }
      li := { s.li with insert := s.li.insert ++ [.notice s.deliverable] } } := by
  rw [State.noticeTest, if_neg h, if_neg ((State.not_noticeWaits_iff s).2 hw), if_pos ((State.notePlace_iff s).2 hp)]
  rfl

theorem noticeTest_of_full {s : State} (hw : ∀ x, GovFrame.notice x ∉ s.li.insert) (hp : 3 ≤ s.li.insert.length) :
    s.noticeTest = s := by
  rw [State.noticeTest, if_neg ((State.not_noticeWaits_iff s).2 hw), if_neg ((State.not_notePlace_iff s).2 hp), ite_self]

theorem noticeCall_of_waiting {s : State} (hw : ∃ x, GovFrame.notice x ∈ s.li.insert) :
    s.noticeCall = { s with li := { s.li with insert := s.li.insert.map (mergeInto s.deliverable) } } := by
  rw [State.noticeCall, if_pos ((State.noticeWaits_iff s).2 hw)]
  rfl

theorem noticeCall_of_place {s : State} (hw : ∀ x, GovFrame.notice x ∉ s.li.insert) (hp : s.li.insert.length ≤ 2) :
    s.noticeCall = { s with li := { s.li with insert := s.li.insert ++ [.notice s.deliverable] } } := by
  rw [State.noticeCall, if_neg ((State.not_noticeWaits_iff s).2 hw), if_pos ((State.notePlace_iff s).2 hp)]
  rfl

theorem noticeCall_of_full {s : State} (hw : ∀ x, GovFrame.notice x ∉ s.li.insert) (hp : 3 ≤ s.li.insert.length) :
    s.noticeCall = s.withNu { s.nu with owed := true } := by
  rw [State.noticeCall, if_neg ((State.not_noticeWaits_iff s).2 hw), if_neg ((State.not_notePlace_iff s).2 hp)]

theorem noticeDeparture_of_not_owed {s : State} (h : s.param .noticeLatch = 1) (ho : s.nu.owed = false) :
    s.noticeDeparture = s := by
  rw [State.noticeDeparture, if_pos ((State.latched_iff s).2 h), if_pos ho]

theorem noticeDeparture_of_waiting {s : State} (h : s.param .noticeLatch = 1) (ho : s.nu.owed = true)
    (hw : ∃ x, GovFrame.notice x ∈ s.li.insert) :
    s.noticeDeparture = { s with
      nu := { s.nu with owed := false }
      li := { s.li with insert := s.li.insert.map (mergeInto s.deliverable) } } := by
  rw [State.noticeDeparture, if_pos ((State.latched_iff s).2 h), if_neg (by simp [ho]),
    if_pos ((State.noticeWaits_iff s).2 hw)]
  rfl

theorem noticeDeparture_of_place {s : State} (h : s.param .noticeLatch = 1) (ho : s.nu.owed = true)
    (hw : ∀ x, GovFrame.notice x ∉ s.li.insert) (hp : s.li.insert.length ≤ 2) :
    s.noticeDeparture = { s with
      nu := { s.nu with owed := false }
      li := { s.li with
        insert := if s.deliverable = 0 then s.li.insert else s.li.insert ++ [.notice s.deliverable] } } := by
  rw [State.noticeDeparture, if_pos ((State.latched_iff s).2 h), if_neg (by simp [ho]),
    if_neg ((State.not_noticeWaits_iff s).2 hw), if_pos ((State.notePlace_iff s).2 hp)]
  split <;> rfl

theorem noticeDeparture_of_full {s : State} (h : s.param .noticeLatch = 1) (hw : ∀ x, GovFrame.notice x ∉ s.li.insert)
    (hp : 3 ≤ s.li.insert.length) : s.noticeDeparture = s := by
  rw [State.noticeDeparture, if_pos ((State.latched_iff s).2 h), if_neg ((State.not_noticeWaits_iff s).2 hw),
    if_neg ((State.not_notePlace_iff s).2 hp), ite_self]

/-- A notice step makes the insert queue at most one frame longer, and no longer at 3 frames or more. -/
theorem NoticeStep.length {q q' : List GovFrame} (h : NoticeStep q q') :
    (q.length ≤ 2 → q'.length ≤ q.length + 1) ∧ (3 ≤ q.length → q'.length = q.length) := by
  rcases h with rfl | ⟨d, rfl⟩ | ⟨d, -, hlen, rfl⟩
  · exact ⟨fun _ => by omega, fun _ => rfl⟩
  · simp
  · rw [List.length_append]
    exact ⟨fun _ => Nat.le_refl _, fun h => by omega⟩

theorem raise_laws (c : NoticeClass) (s : State) :
    s.raise c = { s with nu := (s.raise c).nu, li := { s.li with insert := (s.raise c).li.insert } } := by
  have h := logsOnly_raise s c
  unfold logsOnly at h
  rwa [State.raise_ol] at h

/-- Settles O24: the classes that stand raised by `raised_raise_iff`, the queue by the notice steps, and each operation
by its cases. -/
theorem raisedClassesAreNotLost : Obligations.RaisedClassesAreNotLost := by
  refine ⟨rfl, fun c s => ?_, fun s d merged hd hmerged => ?_⟩
  · have hlength := NoticeStep.length (State.raise_insert s c)
    exact ⟨raised_raise_self c s, raise_laws c s, hlength.1, hlength.2,
      fun h => ⟨raise_of_not_latched h c, noticeDeparture_of_not_latched h⟩, raise_of_pending, raise_of_not_enabled,
      raise_of_enabled⟩
  · have hmap : merged = s.li.insert.map (mergeInto d) := by
      rw [hmerged]
      exact List.map_congr_left fun g _ => by cases g <;> rfl
    obtain rfl : s.deliverable = d := hd.symm
    subst hmap
    exact ⟨noticeTest_of_none, noticeTest_of_waiting, noticeTest_of_place,
      fun hw hp => ⟨noticeTest_of_full hw hp, noticeCall_of_full hw hp⟩, noticeCall_of_waiting, noticeCall_of_place,
      fun hl => ⟨noticeDeparture_of_not_owed hl, noticeDeparture_of_waiting hl, noticeDeparture_of_place hl,
        fun _ => noticeDeparture_of_full hl⟩⟩

/-! ### The log under a record (R155 to R157) -/

/-- In OVERWRITE a record handed over is the newest of the log, whether or not older ones made room. -/
theorem newest_record {s : State} (h : s.param .logMode = 1) (r : Record) : newest (s.record r) = some r := by
  simp only [newest, State.record_ol, h, beq_self_eq_true, ObservationLog.append]
  (repeat' split) <;> simp_all

theorem newest_congr {s t : State} (h : t.ol = s.ol) : newest t = newest s := by
  simp only [newest, h]

theorem newest_record_raise {s : State} (h : s.param .logMode = 1) (r : Record) (c : NoticeClass) :
    newest ((s.record r).raise c) = some r :=
  (newest_congr (State.raise_ol _ c)).trans (newest_record h r)

/-- The oldest records removed for a new one are the fewest: without the last of them there was no room. -/
theorem dropOldest_fewest (len : Nat) (rs : List Record) :
    ∃ gone, rs = gone ++ (dropOldest len rs).1 ∧ gone.length = (dropOldest len rs).2
      ∧ (∀ pre x, gone = pre ++ [x] → 512 < x.length + recordsLength (dropOldest len rs).1 + len) := by
  induction rs with
  | nil => exact ⟨[], rfl, rfl, by simp⟩
  | cons r rs ih =>
    obtain ⟨gone, hsplit, hcount, hfewest⟩ := ih
    unfold dropOldest
    split
    · exact ⟨[], rfl, rfl, by simp⟩
    · rename_i hfull
      refine ⟨r :: gone, congrArg (r :: ·) hsplit, by simp [hcount], fun pre x hpre => ?_⟩
      cases pre with
      | cons y ys => exact hfewest ys x (List.cons.inj hpre).2
      | nil =>
        obtain ⟨rfl, rfl⟩ := List.cons.inj hpre
        rw [List.nil_append] at hsplit
        rw [← hsplit]
        simp only [recordsLength, List.map_cons, List.sum_cons] at hfull ⊢
        omega

/-- What an append does, case by case (R155). -/
theorem append_of_fits {o : ObservationLog} {r : Record} (h : o.fill + r.length ≤ 512) (overwrite : Bool) (stamp : Nat) :
    o.append overwrite stamp r = { log := { o with store := o.store ++ [r], fill := o.fill + r.length }, lostNow := 0 } := by
  rw [ObservationLog.append, if_pos h]

theorem append_of_full_stop {o : ObservationLog} {r : Record} (h : 512 < o.fill + r.length) (stamp : Nat) :
    o.append false stamp r = { log := o.loseRecords 1 stamp, lostNow := 1 } := by
  rw [ObservationLog.append, if_neg (by omega), if_pos rfl]

theorem append_of_full_overwrite {o : ObservationLog} {r : Record} (h : 512 < o.fill + r.length) (stamp : Nat) :
    o.append true stamp r = {
      log := { o.loseRecords (dropOldest r.length o.store).2 stamp with
        store := (dropOldest r.length o.store).1 ++ [r]
        fill := recordsLength (dropOldest r.length o.store).1 + r.length }
      lostNow := (dropOldest r.length o.store).2 } := by
  rw [ObservationLog.append, if_neg (by omega), if_neg (by decide)]

theorem loseRecords_of_pos {o : ObservationLog} {n : Nat} (h : n ≠ 0) (stamp : Nat) :
    o.loseRecords n stamp
      = { o with lost := min 65535 (o.lost + n), firstLoss := if o.lost = 0 then stamp else o.firstLoss } := by
  rw [ObservationLog.loseRecords, if_neg h]

theorem append_lost_of_lostNow_eq_zero {o : ObservationLog} {overwrite : Bool} {stamp : Nat} {r : Record}
    (h : (o.append overwrite stamp r).lostNow = 0) : (o.append overwrite stamp r).log.lost = o.lost := by
  by_cases hfits : o.fill + r.length ≤ 512
  · rw [append_of_fits hfits]
  · cases overwrite with
    | false =>
      rw [append_of_full_stop (by omega)] at h
      cases h
    | true =>
      rw [append_of_full_overwrite (by omega)] at h ⊢
      simp only at h ⊢
      rw [h]
      rfl

/-- The first loss of a run raises LOSS (R155). -/
theorem raised_loss_of_first_loss {s : State} {r : Record} (hnone : s.ol.lost = 0) (hlost : 0 < (s.record r).ol.lost) :
    raised .loss (s.record r) := by
  have hnow : (s.ol.append (s.param .logMode == 1) s.stamp r).lostNow ≠ 0 := fun h => by
    rw [State.record_ol, append_lost_of_lostNow_eq_zero h] at hlost
    omega
  simp only [State.record, if_pos (And.intro hnone hnow)]
  repeat' split
  · exact raised_raise (raised_raise_self _ _) _
  · exact raised_raise_self _ _

/-- A fill that reaches the watermark from below it raises WATERMARK (R156). -/
theorem raised_watermark_of_crossing {s : State} {r : Record} (hbelow : (s.ol.fill : Int) < s.param .watermark)
    (hreach : s.param .watermark ≤ (s.record r).ol.fill) : raised .watermark (s.record r) := by
  rw [State.record_ol] at hreach
  simp only [State.record, if_pos (And.intro hbelow hreach)]
  exact raised_raise_self _ _

theorem offerGrant_kept {s : State} {r : Record} {forced : Bool}
    (h : forced = true ∨ s.ol.grantCounter % 2 ^ s.paramNat .grantDownsample = 0) :
    s.offerGrant r forced = (s.withOl { s.ol with grantCounter := (s.ol.grantCounter + 1) % 128 }).record r := by
  simp [State.offerGrant, h]

theorem offerGrant_skipped {s : State} {r : Record} (h : s.ol.grantCounter % 2 ^ s.paramNat .grantDownsample ≠ 0) :
    s.offerGrant r false = s.withOl { s.ol with grantCounter := (s.ol.grantCounter + 1) % 128 } := by
  simp [State.offerGrant, h]

/-- The code of a kind is one more than its place, and names the kind (section 7.2). -/
theorem obsCode_eq_obsIndex (k : ObsKind) : obsCode k = (obsIndex k).val + 1 := by
  cases k <;> simp only [obsCode, obsIndex] <;> first | rfl | omega

theorem obsOfCode_obsCode (k : ObsKind) : obsOfCode (obsCode k) = some k := by
  match k with
  | .dieA | .dieB | .board | .battV => rfl
  | .fwd 0 | .fwd 1 | .fwd 2 | .fwd 3 => rfl
  | .refl 0 | .refl 1 | .refl 2 | .refl 3 => rfl

theorem obsIndex_injective {j k : ObsKind} (h : obsIndex j = obsIndex k) : j = k := by
  have hcode : obsCode j = obsCode k := by rw [obsCode_eq_obsIndex, obsCode_eq_obsIndex, h]
  have hsome := obsOfCode_obsCode j
  rw [hcode, obsOfCode_obsCode] at hsome
  exact (Option.some.inj hsome).symm

/-- An offer of a kind counts in the reading counter of that kind alone (R157). -/
def countReading (k : ObsKind) (s : State) : State :=
  s.withOl { s.ol with
    readingCounters := s.ol.readingCounters.set (obsIndex k).val ((s.ol.readingCounters.get (obsIndex k) + 1) % 128)
      (obsIndex k).isLt }

theorem countReading_self (k : ObsKind) (s : State) :
    (countReading k s).ol.readingCounters.get (obsIndex k) = (s.ol.readingCounters.get (obsIndex k) + 1) % 128 := by
  simp [countReading, get_eq_getElem]

theorem countReading_of_ne {j k : ObsKind} (h : j ≠ k) (s : State) :
    (countReading k s).ol.readingCounters.get (obsIndex j) = s.ol.readingCounters.get (obsIndex j) := by
  have hplace : (obsIndex k).val ≠ (obsIndex j).val := fun e => h (obsIndex_injective (Fin.ext e)).symm
  simp [countReading, get_eq_getElem, Vector.getElem_set_ne _ _ hplace]

theorem offerReading_of_off {s : State} (h : s.param .readingLog = 8) (k : ObsKind) (v : Int) : s.offerReading k v = s := by
  rw [State.offerReading, if_pos h]

theorem offerReading_of_on {s : State} (h : s.param .readingLog ≠ 8) (k : ObsKind) (v : Int) :
    s.offerReading k v = if s.ol.readingCounters.get (obsIndex k) % 2 ^ s.paramNat .readingLog = 0 then
      (countReading k s).record (.reading k v s.stamp) else countReading k s := by
  rw [State.offerReading, if_neg h]
  rfl

/-! ### The settling of RecordsEnterTheLogByItsMode -/

theorem record_ol_of_fits {s : State} {r : Record} (h : s.ol.fill + r.length ≤ 512) :
    (s.record r).ol = { s.ol with store := s.ol.store ++ [r], fill := s.ol.fill + r.length } := by
  rw [State.record_ol, append_of_fits h]

theorem record_ol_of_stop {s : State} {r : Record} (h : 512 < s.ol.fill + r.length) (hm : s.param .logMode = 0) :
    (s.record r).ol = { s.ol with
      lost := min 65535 (s.ol.lost + 1), firstLoss := if s.ol.lost = 0 then s.stamp else s.ol.firstLoss } := by
  have hstop : (s.param .logMode == 1) = false := by simp [hm]
  rw [State.record_ol, hstop, append_of_full_stop h, loseRecords_of_pos Nat.one_ne_zero]

/-- In OVERWRITE a record that does not fit removes the fewest oldest records that make room (R155). -/
theorem record_ol_of_overwrite {s : State} {r : Record} (hsound : logSound s) (hlen : r.length ≤ 6)
    (h : 512 < s.ol.fill + r.length) (hm : s.param .logMode = 1) :
    ∃ gone kept, s.ol.store = gone ++ kept ∧ gone ≠ [] ∧ recordsLength kept + r.length ≤ 512
      ∧ (∀ pre x, gone = pre ++ [x] → 512 < x.length + recordsLength kept + r.length)
      ∧ (s.record r).ol = { s.ol with
          store := kept ++ [r], fill := recordsLength kept + r.length,
          lost := min 65535 (s.ol.lost + gone.length),
          firstLoss := if s.ol.lost = 0 then s.stamp else s.ol.firstLoss } := by
  obtain ⟨hfill, -⟩ := hsound
  obtain ⟨-, hroom⟩ := dropOldest_spec r.length (by omega) s.ol.store
  obtain ⟨gone, hsplit, hcount, hfewest⟩ := dropOldest_fewest r.length s.ol.store
  have hgone : gone ≠ [] := by
    rintro rfl
    rw [List.nil_append] at hsplit
    rw [← hsplit, ← hfill] at hroom
    omega
  have hpos : (dropOldest r.length s.ol.store).2 ≠ 0 := by
    rw [← hcount]
    exact fun hzero => hgone (List.length_eq_zero_iff.1 hzero)
  have hoverwrite : (s.param .logMode == 1) = true := by simp [hm]
  refine ⟨gone, _, hsplit, hgone, hroom, hfewest, ?_⟩
  rw [State.record_ol, hoverwrite, append_of_full_overwrite h, loseRecords_of_pos hpos, hcount]

/-- Settles O25: the log by the three cases of an append, the classes by `record`'s two tests, and the offers by their
counters. -/
theorem recordsEnterTheLogByItsMode : Obligations.RecordsEnterTheLogByItsMode := by
  refine ⟨fun r s hsound hlen => ?_, fun r forced s t ht => ?_, fun k v n s hn => ?_⟩
  · exact ⟨record_ol_of_fits, record_ol_of_stop, record_ol_of_overwrite hsound hlen, raised_loss_of_first_loss,
      raised_watermark_of_crossing, logsOnly_record s r, rfl⟩
  · subst ht
    exact ⟨offerGrant_kept, fun hforced => hforced ▸ offerGrant_skipped⟩
  · subst hn
    exact ⟨fun h => offerReading_of_off h k v, fun h => ⟨countReading k s, rfl, countReading_self k s,
      fun j hj => countReading_of_ne hj s, offerReading_of_on h k v⟩⟩

end Sys2Proof.Safety
end

section
/-! PROOFS. The laws that hold at all times, and the elementary updates that keep them: what a change of one block must
show so that every law stands after it. -/

namespace Sys2Proof.Safety

open Sys2Proof.Machine

/-! ### Keeping every law -/

/-- The parameters that count ticks or readings stand within their ranges: what the window and the mismatch records need
of the parameter store. -/
def countsInRange (s : State) : Prop :=
  ∀ p ∈ [ParamId.confirm, .recoverTicks, .severeLimit, .parkTicks, .windowTicks],
    p.range.1 ≤ s.param p ∧ s.param p ≤ p.range.2

/-- Every law of the part that holds of the first state holds of the second. -/
structure KeepsInvariants (s t : State) : Prop where
  log : logSound s → logSound t
  queues : queuesSound s → queuesSound t
  counts : countsInRange s → countsInRange t
  params : paramsSound s → paramsSound t
  window : countsInRange s → windowSound s → windowSound t
  thermal : thermalSound s → thermalSound t
  banks : banksSound s → banksSound t
  curves : curvesSound s → curvesSound t
  references : referencesSound s → referencesSound t
  active : activeSound s → activeSound t
  mismatch : countsInRange s → mismatchSound s → mismatchSound t

/-- Every law is kept and the pins stand. -/
structure KeepsLaws (s t : State) : Prop extends KeepsInvariants s t where
  pins : t.pins = s.pins

/-- Every law is kept, and so is a place in the insert queue for a RESPONSE. -/
structure Keeps (s t : State) : Prop extends KeepsLaws s t where
  room : s.li.insert.length ≤ 3 → t.li.insert.length ≤ 3

theorem KeepsInvariants.trans {s t u : State} (hst : KeepsInvariants s t) (htu : KeepsInvariants t u) : KeepsInvariants s u where
  log := htu.log ∘ hst.log
  queues := htu.queues ∘ hst.queues
  counts := htu.counts ∘ hst.counts
  params := htu.params ∘ hst.params
  window hc := htu.window (hst.counts hc) ∘ hst.window hc
  thermal := htu.thermal ∘ hst.thermal
  banks := htu.banks ∘ hst.banks
  curves := htu.curves ∘ hst.curves
  references := htu.references ∘ hst.references
  active := htu.active ∘ hst.active
  mismatch hc := htu.mismatch (hst.counts hc) ∘ hst.mismatch hc

theorem KeepsLaws.trans {s t u : State} (hst : KeepsLaws s t) (htu : KeepsLaws t u) : KeepsLaws s u where
  toKeepsInvariants := hst.toKeepsInvariants.trans htu.toKeepsInvariants
  pins := htu.pins.trans hst.pins

theorem Keeps.trans {s t u : State} (hst : Keeps s t) (htu : Keeps t u) : Keeps s u where
  toKeepsLaws := hst.toKeepsLaws.trans htu.toKeepsLaws
  room := htu.room ∘ hst.room

theorem Keeps.refl (s : State) : Keeps s s where
  log := id
  queues := id
  counts := id
  params := id
  window _ := id
  thermal := id
  banks := id
  curves := id
  references := id
  active := id
  mismatch _ := id
  pins := rfl
  room := id

theorem KeepsLaws.refl (s : State) : KeepsLaws s s := (Keeps.refl s).toKeepsLaws

/-- A case split keeps the laws when each of its cases does. -/
theorem Keeps.ite {c : Prop} [Decidable c] {s t u : State} (ht : c → Keeps s t) (hu : ¬ c → Keeps s u) :
    Keeps s (if c then t else u) := by
  split
  · exact ht ‹_›
  · exact hu ‹_›

theorem KeepsLaws.ite {c : Prop} [Decidable c] {s t u : State} (ht : c → KeepsLaws s t) (hu : ¬ c → KeepsLaws s u) :
    KeepsLaws s (if c then t else u) := by
  split
  · exact ht ‹_›
  · exact hu ‹_›

/-! ### Updates of one block -/

theorem Keeps.withGe (s : State) (x : GrantEngine) (h : activeSound s → activeSound (s.withGe x)) : Keeps s (s.withGe x) :=
  { Keeps.refl s with active := h }

/-- Of the Grant Engine the laws read the mode alone. -/
theorem Keeps.withGe_same (s : State) (x : GrantEngine) (h : x.mode = s.ge.mode) : Keeps s (s.withGe x) :=
  .withGe s x fun ha hm => ha (h.symm.trans hm)

theorem Keeps.withTe (s : State) (x : ThermalEstimator) (h : thermalSound s → thermalSound (s.withTe x)) :
    Keeps s (s.withTe x) :=
  { Keeps.refl s with thermal := h }

theorem Keeps.withMs (s : State) (x : Vector ChainRecord 4)
    (h : countsInRange s → mismatchSound s → mismatchSound (s.withMs x)) : Keeps s (s.withMs x) :=
  { Keeps.refl s with mismatch := h }

theorem Keeps.withSa (s : State) (x : SupplyAllocator) (h : countsInRange s → windowSound s → windowSound (s.withSa x)) :
    Keeps s (s.withSa x) :=
  { Keeps.refl s with window := h }

theorem Keeps.withCs (s : State) (x : CurveStore) (hc : curvesSound s → curvesSound (s.withCs x))
    (hr : referencesSound s → referencesSound (s.withCs x)) : Keeps s (s.withCs x) :=
  { Keeps.refl s with curves := hc, references := hr }

theorem Keeps.withCb (s : State) (x : ConfigBanks) (hb : banksSound s → banksSound (s.withCb x))
    (hr : referencesSound s → referencesSound (s.withCb x)) (ha : activeSound s → activeSound (s.withCb x)) :
    Keeps s (s.withCb x) :=
  { Keeps.refl s with banks := hb, references := hr, active := ha }

theorem Keeps.withOl (s : State) (x : ObservationLog) (h : logSound s → logSound (s.withOl x)) : Keeps s (s.withOl x) :=
  { Keeps.refl s with log := h }

theorem Keeps.withTi (s : State) (x : TelemetryIntake) : Keeps s (s.withTi x) := { Keeps.refl s with }

theorem Keeps.withTg (s : State) (x : TickGenerator) : Keeps s (s.withTg x) := { Keeps.refl s with }

theorem Keeps.withNu (s : State) (x : NoticeUnit) : Keeps s (s.withNu x) := { Keeps.refl s with }

theorem KeepsInvariants.withPins (s : State) (x : Pins) : KeepsInvariants s (s.withPins x) := { Keeps.refl s with }

theorem Keeps.withInHand (s : State) (x : InHand) : Keeps s (s.withInHand x) := { Keeps.refl s with }

theorem Keeps.withPending (s : State) (x : List Instr) : Keeps s (s.withPending x) := { Keeps.refl s with }

/-- A change of the links keeps every law but those of the two upstream queues. -/
theorem KeepsLaws.withLi (s : State) (x : LinkInterface) (h : queuesSound s → queuesSound (s.withLi x)) :
    KeepsLaws s (s.withLi x) :=
  { KeepsLaws.refl s with queues := h }

/-- Of the links the laws read the two upstream queues alone. -/
theorem Keeps.withLi_same (s : State) (x : LinkInterface) (hi : x.insert = s.li.insert) (ht : x.transit = s.li.transit) :
    Keeps s (s.withLi x) :=
  { KeepsLaws.withLi s x fun hq => by simpa only [queuesSound, State.withLi_li, hi, ht] using hq with
    room := fun hr => by simpa only [State.withLi_li, hi] using hr }

end Sys2Proof.Safety

namespace Sys2Proof.Machine

/-! ### The frames of the insert queue (R169) -/

@[simp] theorem GovFrame.isResponse_response (tag : BitVec 4) (ws : List Word) : (GovFrame.response tag ws).isResponse = true := rfl
@[simp] theorem GovFrame.isResponse_notice (d : ClassSet) : (GovFrame.notice d).isResponse = false := rfl
@[simp] theorem GovFrame.isResponse_grantNote (ws : List Word) : (GovFrame.grantNote ws).isResponse = false := rfl
@[simp] theorem GovFrame.isNotice_response (tag : BitVec 4) (ws : List Word) : (GovFrame.response tag ws).isNotice = false := rfl
@[simp] theorem GovFrame.isNotice_notice (d : ClassSet) : (GovFrame.notice d).isNotice = true := rfl
@[simp] theorem GovFrame.isNotice_grantNote (ws : List Word) : (GovFrame.grantNote ws).isNotice = false := rfl

/-! ### Parameters and their ranges (section 11.4) -/

theorem clamp_bounds {lo hi : Int} (h : lo ≤ hi) (v : Int) : lo ≤ clamp lo hi v ∧ clamp lo hi v ≤ hi := by
  unfold clamp
  (repeat' split) <;> omega

/-- The order of the thresholds ties a parameter to others (R47, R68). -/
def ParamId.tied : ParamId → Bool
  | .warm | .hot | .critical | .detuneThreshold | .severeThreshold => true
  | _ => false

theorem ParamId.range_ordered (p : ParamId) : p.range.1 ≤ p.range.2 := by
  cases p <;> decide

theorem ParamId.mem_all (p : ParamId) : p ∈ ParamId.all := by
  cases p <;> decide

theorem State.storedValue_of_untied {p : ParamId} (h : p.tied = false) (s : State) (v : Int) :
    s.storedValue p v = clamp p.range.1 p.range.2 v := by
  cases p <;> first | rfl | cases h

theorem State.setParam_param (s : State) (p q : ParamId) (v : Int) :
    (s.setParam p v).param q = if q = p then v else s.param q := by
  split
  · rename_i h
    rw [h, State.setParam_param_self]
  · rename_i h
    exact State.setParam_param_of_ne s p q v h

end Sys2Proof.Machine

namespace Sys2Proof.Safety

open Sys2Proof.Machine

/-! ### The parameter store (R47, R68, R177) -/

theorem paramsInRange.all {s : State} (h : paramsInRange s) (p : ParamId) :
    p.range.1 ≤ s.param p ∧ s.param p ≤ p.range.2 :=
  h p p.mem_all

theorem countsInRange_of_paramsInRange {s : State} (h : paramsInRange s) : countsInRange s := fun p _ => h.all p

/-- The stored value of a parameter lies within its range. -/
theorem storedValue_inRange {s : State} (h : paramsSound s) (p : ParamId) (v : Int) :
    p.range.1 ≤ s.storedValue p v ∧ s.storedValue p v ≤ p.range.2 := by
  cases htied : p.tied with
  | false =>
    rw [State.storedValue_of_untied htied]
    exact clamp_bounds p.range_ordered v
  | true =>
    obtain ⟨hrange, hwarm, hhot, hsevere⟩ := h
    have h1 := hrange.all .warm
    have h2 := hrange.all .hot
    have h3 := hrange.all .critical
    have h4 := hrange.all .detuneThreshold
    have h5 := hrange.all .severeThreshold
    simp only [ParamId.range] at h1 h2 h3 h4 h5
    cases p <;> simp only [ParamId.tied, Bool.false_eq_true] at htied <;>
      simp only [State.storedValue, State.tiedClamp, ParamId.range, clamp] <;> omega

/-- The tied interval of a threshold keeps it in order with its neighbours (R47, R68). -/
theorem thresholdsOrdered_setParam {s : State} (h : paramsSound s) (p : ParamId) (v : Int) :
    thresholdsOrdered (s.setParam p (s.storedValue p v)) := by
  obtain ⟨hrange, hwarm, hhot, hsevere⟩ := h
  have h1 := hrange.all .warm
  have h3 := hrange.all .critical
  have h4 := hrange.all .detuneThreshold
  have h5 := hrange.all .severeThreshold
  simp only [ParamId.range] at h1 h3 h4 h5
  cases htied : p.tied with
  | false =>
    have hstands (q : ParamId) (hq : q.tied = true) (v : Int) : (s.setParam p v).param q = s.param q :=
      State.setParam_param_of_ne s p q v fun e => by rw [e, htied] at hq; cases hq
    rw [thresholdsOrdered, hstands .warm rfl, hstands .hot rfl, hstands .critical rfl, hstands .severeThreshold rfl,
      hstands .detuneThreshold rfl]
    exact ⟨hwarm, hhot, hsevere⟩
  | true =>
    simp only [thresholdsOrdered, State.setParam_param]
    cases p <;> simp only [ParamId.tied, Bool.false_eq_true] at htied <;>
      simp only [State.storedValue, State.tiedClamp, ParamId.range, clamp, reduceCtorEq, if_true, if_false] <;>
      omega

theorem countsInRange_setParam {s : State} (h : countsInRange s) (p : ParamId) (v : Int) :
    countsInRange (s.setParam p (s.storedValue p v)) := by
  intro q hq
  rw [State.setParam_param]
  split
  · rename_i hqp
    have huntied : p.tied = false := by
      subst hqp
      revert q
      decide
    rw [State.storedValue_of_untied huntied, hqp]
    exact clamp_bounds p.range_ordered v
  · exact h q hq

/-- A parameter takes the value clamped to its range and its neighbours (R177). -/
theorem Keeps.setParam (s : State) (p : ParamId) (v : Int) : Keeps s (s.setParam p (s.storedValue p v)) :=
  { Keeps.refl s with
    counts := fun h => countsInRange_setParam h p v
    params := fun h => by
      refine ⟨fun q hq => ?_, thresholdsOrdered_setParam h p v⟩
      rw [State.setParam_param]
      split
      · rename_i hqp
        exact hqp ▸ storedValue_inRange h p v
      · exact h.1 q hq }

/-! ### The Thermal Estimator (R31, R34) -/

theorem thermalSound_iff (s : State) : thermalSound s ↔ ∀ m, (s.te.get m).rise ≤ 1023 ∧ (s.te.get m).heat ≤ 1048575 :=
  ⟨fun h m => h m (by cases m <;> simp), fun h m _ => h m⟩

/-- A module's record is replaced by one within its ranges. -/
theorem Keeps.setModule (s : State) (m : Module) (r : ModuleRecord)
    (h : thermalSound s → r.rise ≤ 1023 ∧ r.heat ≤ 1048575) : Keeps s (s.withTe (s.te.set m r)) :=
  .withTe s _ fun hs => by
    rw [thermalSound_iff]
    intro n
    by_cases hn : n = m
    · subst hn
      simpa using h hs
    · simpa [ThermalEstimator.get_set_of_ne _ _ _ _ hn] using (thermalSound_iff s).1 hs n

/-! ### The mismatch records (section 3.1) -/

/-- A chain's record is replaced by one that fits its state. -/
theorem Keeps.setChain (s : State) (c : Chain) (r : ChainRecord)
    (h : countsInRange s → chainSound (s.ms.get c) = true → chainSound r = true) : Keeps s (s.setChain c r) :=
  .withMs s _ fun hc hs d => by
    change chainSound ((s.setChain c r).ms.get d) = true
    by_cases hd : d = c
    · subst hd
      rw [State.setChain_ms_self]
      exact h hc (hs d)
    · rw [State.setChain_ms_of_ne _ _ _ _ hd]
      exact hs d

/-! ### The log and the notices (R155, R169) -/

theorem recordsLength_mono_of_suffix {a b : List Record} (h : a <:+ b) : recordsLength a ≤ recordsLength b := by
  obtain ⟨pre, rfl⟩ := h
  rw [recordsLength_append]
  exact Nat.le_add_left _ _

/-- An append keeps the log sound, whatever its mode (R155). -/
theorem logSound_append {s : State} (hs : logSound s) (overwrite : Bool) {r : Record} (hr : 1 ≤ r.length ∧ r.length ≤ 6) :
    logSound (s.withOl (s.ol.append overwrite s.stamp r).log) := by
  obtain ⟨hfill, hmax, hlen, hlost, hfirst⟩ := hs
  have hstamp : s.stamp ≤ 65535 := by
    unfold State.stamp
    omega
  have hlose (n : Nat) : (s.ol.loseRecords n s.stamp).lost ≤ 65535 ∧ (s.ol.loseRecords n s.stamp).firstLoss ≤ 65535 := by
    unfold ObservationLog.loseRecords
    repeat' split
    · exact ⟨hlost, hfirst⟩
    · exact ⟨Nat.min_le_left _ _, hstamp⟩
    · exact ⟨Nat.min_le_left _ _, hfirst⟩
  by_cases hfits : s.ol.fill + r.length ≤ 512
  · rw [append_of_fits hfits]
    refine ⟨by simp [hfill, recordsLength], hfits, fun x hx => ?_, hlost, hfirst⟩
    rcases List.mem_append.1 hx with hx | hx
    · exact hlen x hx
    · exact List.mem_singleton.1 hx ▸ hr
  · cases overwrite with
    | false =>
      rw [append_of_full_stop (by omega), loseRecords_of_pos Nat.one_ne_zero]
      have h1 := hlose 1
      rw [loseRecords_of_pos Nat.one_ne_zero] at h1
      exact ⟨hfill, hmax, hlen, h1.1, h1.2⟩
    | true =>
      obtain ⟨⟨gone, hsplit, -⟩, hroom⟩ := dropOldest_spec r.length (by omega) s.ol.store
      rw [append_of_full_overwrite (by omega)]
      refine ⟨by simp [recordsLength], hroom, fun x hx => ?_, (hlose _).1, (hlose _).2⟩
      rcases List.mem_append.1 hx with hx | hx
      · exact hlen x (hsplit ▸ List.mem_append_right gone hx)
      · exact List.mem_singleton.1 hx ▸ hr

/-- A notice step keeps the insert queue within its places (R169). -/
theorem NoticeStep.queues {q q' : List GovFrame} (h : NoticeStep q q') :
    (q.length ≤ 4 ∧ (q.filter fun g => !g.isResponse).length ≤ 3 ∧ (q.filter GovFrame.isNotice).length ≤ 1) →
      q'.length ≤ 4 ∧ (q'.filter fun g => !g.isResponse).length ≤ 3 ∧ (q'.filter GovFrame.isNotice).length ≤ 1 := by
  rintro ⟨hlen, hown, hnotice⟩
  rcases h with rfl | ⟨d, rfl⟩ | ⟨d, hnone, hplace, rfl⟩
  · exact ⟨hlen, hown, hnotice⟩
  · simpa [List.filter_map, Function.comp_def] using ⟨hlen, hown, hnotice⟩
  · have hle : (q.filter fun g => !g.isResponse).length ≤ q.length := List.length_filter_le _ _
    have hempty : q.filter GovFrame.isNotice = [] := by
      rw [List.filter_eq_nil_iff]
      exact fun g hg => by simpa using List.any_eq_false.1 hnone g hg
    simp [List.filter_append, List.filter_cons, hempty]
    omega

/-- NU's operations keep every law. -/
theorem Keeps.notices {s t : State} (h : logsOnly s t) (hol : t.ol = s.ol) (hq : NoticeStep s.li.insert t.li.insert) :
    Keeps s t := by
  unfold logsOnly at h
  rw [hol] at h
  have hlength := NoticeStep.length hq
  have hqueue : KeepsLaws s (s.withLi { s.li with insert := t.li.insert }) :=
    .withLi s _ fun ⟨hlen, hown, hnotice, htransit⟩ =>
      have hstep := NoticeStep.queues hq ⟨hlen, hown, hnotice⟩
      ⟨hstep.1, hstep.2.1, hstep.2.2, htransit⟩
  have hroom : Keeps s (s.withLi { s.li with insert := t.li.insert }) :=
    { hqueue with room := fun hr => by simp only [State.withLi_li]; omega }
  have hnu := hroom.trans (Keeps.withNu _ t.nu)
  rw [h]
  exact hnu

theorem Keeps.raise (s : State) (c : NoticeClass) : Keeps s (s.raise c) :=
  .notices (logsOnly_raise s c) (State.raise_ol s c) (State.raise_insert s c)

theorem Keeps.noticeTest (s : State) : Keeps s s.noticeTest :=
  .notices (logsOnly_noticeTest s) (State.noticeTest_ol s) (State.noticeTest_insert s)

theorem Keeps.noticeCall (s : State) : Keeps s s.noticeCall :=
  .notices (logsOnly_noticeCall s) (State.noticeCall_ol s) (State.noticeCall_insert s)

/-- A record of 1 to 6 words handed to the log. -/
theorem Keeps.record (s : State) {r : Record} (hr : 1 ≤ r.length ∧ r.length ≤ 6) : Keeps s (s.record r) := by
  have hlog := Keeps.withOl s (s.ol.append (s.param .logMode == 1) s.stamp r).log fun hs => logSound_append hs _ hr
  simp only [State.record]
  repeat' split
  · exact (hlog.trans (.raise _ _)).trans (.raise _ _)
  · exact hlog.trans (.raise _ _)
  · exact hlog.trans (.raise _ _)
  · exact hlog

/-- A record of 1 to 6 words, and the class raised with it. -/
theorem Keeps.record_raise (s : State) {r : Record} (hr : 1 ≤ r.length ∧ r.length ≤ 6) (c : NoticeClass) :
    Keeps s ((s.record r).raise c) :=
  (Keeps.record s hr).trans (.raise _ c)

theorem Keeps.linkFault (s : State) (e : LinkError) : Keeps s (s.linkFault e) :=
  .record_raise s (by simp [Record.length]) .link

theorem Keeps.offerGrant (s : State) {r : Record} (hr : 1 ≤ r.length ∧ r.length ≤ 6) (forced : Bool) :
    Keeps s (s.offerGrant r forced) := by
  have hcount := Keeps.withOl s { s.ol with grantCounter := (s.ol.grantCounter + 1) % 128 } id
  simp only [State.offerGrant]
  repeat' split
  · exact hcount.trans (.record _ hr)
  · exact hcount

theorem Keeps.offerReading (s : State) (k : ObsKind) (v : Int) : Keeps s (s.offerReading k v) := by
  have hcount : Keeps s (countReading k s) := .withOl s _ id
  by_cases hoff : s.param .readingLog = 8
  · rw [offerReading_of_off hoff]
    exact .refl s
  · rw [offerReading_of_on hoff]
    exact .ite (fun _ => hcount.trans (.record _ (by simp [Record.length]))) (fun _ => hcount)

/-! ### The upstream queues (R168, R169) -/

/-- A RESPONSE takes the place that is kept for it. -/
theorem KeepsLaws.respond (s : State) (tag : BitVec 4) (code : Nat) (r : Reply) (h : s.li.insert.length ≤ 3) :
    KeepsLaws s (s.respond tag code r) :=
  .withLi s _ fun ⟨_, hown, hnotice, htransit⟩ =>
    ⟨by simp; omega, by simpa using hown, by simpa using hnotice, htransit⟩

/-- A GRANT NOTE is placed at 0 to 2 frames. -/
theorem Keeps.queueNote (s : State) (ws : List Word) (h : s.li.insert.length ≤ 2) :
    Keeps s (s.queueGov (.grantNote ws)) where
  toKeepsLaws := .withLi s { s.li with insert := s.li.insert ++ [.grantNote ws] } fun ⟨_, _, hnotice, htransit⟩ =>
    have hle : (s.li.insert.filter fun g => !g.isResponse).length ≤ s.li.insert.length := List.length_filter_le _ _
    ⟨by simp; omega, by simp; omega, by simpa using hnotice, htransit⟩
  room _ := by
    simp [State.queueGov]
    omega

theorem Keeps.queueTransit (s : State) (f : Frame) (h : s.li.transit.length < 2) :
    Keeps s (s.withLi { s.li with transit := s.li.transit ++ [f] }) where
  toKeepsLaws := .withLi s _ fun ⟨hlen, hown, hnotice, _⟩ => ⟨hlen, hown, hnotice, by simp; omega⟩
  room := id

theorem Keeps.offerTransit (s : State) (f : Frame) : Keeps s (s.offerTransit f) :=
  .ite (fun h => .queueTransit s f h) (fun _ => .linkFault s .overrun)

end Sys2Proof.Safety
end

section
/-! PROOFS. The operations of the blocks keep every law: zones and corrections, mismatch records, the charge window, the
application of a flip, the readings of a telemetry frame, and the tick work. -/

namespace Sys2Proof.Machine

/-! ### The window's buckets as a sum (R76) -/

theorem toList_eq_ofFn (b : Vector Nat 16) : b.toList = List.ofFn b.get :=
  List.ext_getElem (by rw [List.length_ofFn, Vector.length_toList]) fun i _ _ => by
    rw [List.getElem_ofFn, Vector.getElem_toList]
    rfl

/-- The oldest bucket and the others. -/
theorem sum_oldest (b : Vector Nat 16) : b.toList.sum = b.get 0 + (List.ofFn fun i : Fin 15 => b.get i.succ).sum := by
  rw [toList_eq_ofFn, List.ofFn_succ, List.sum_cons]

/-- The open bucket and the others. -/
theorem sum_open (b : Vector Nat 16) :
    b.toList.sum = (List.ofFn fun i : Fin 15 => b.get i.castSucc).sum + b.get (Fin.last 15) := by
  rw [toList_eq_ofFn, List.ofFn_succ_last, List.sum_append, List.sum_singleton]

/-- A rotation takes the oldest bucket from the sum (R79). -/
theorem rotateBuckets_sum (b : Vector Nat 16) : (rotateBuckets b).toList.sum + b.get 0 = b.toList.sum := by
  rw [sum_open, sum_oldest]
  have hopen : (rotateBuckets b).get (Fin.last 15) = 0 := rfl
  have hmoved (i : Fin 15) : (rotateBuckets b).get i.castSucc = b.get i.succ := Safety.rotateBuckets_get b i
  simp only [hopen, hmoved]
  omega

theorem set_open_get (b : Vector Nat 16) (x : Nat) (i : Fin 16) :
    (b.set 15 x).get i = if i = 15 then x else b.get i := by
  split
  · rename_i h
    subst h
    rw [get_eq_getElem]
    exact Vector.getElem_set_self _
  · rename_i h
    have hne : (15 : Nat) ≠ i.val := fun e => h (Fin.ext e.symm)
    simp [get_eq_getElem, Vector.getElem_set_ne _ _ hne]

/-- What joins the open bucket joins the sum (R77). -/
theorem set_open_sum (b : Vector Nat 16) (x : Nat) : (b.set 15 (b.get 15 + x)).toList.sum = b.toList.sum + x := by
  rw [sum_open, sum_open b]
  have hopen : (b.set 15 (b.get 15 + x)).get (Fin.last 15) = b.get (Fin.last 15) + x := set_open_get b _ 15
  have hstands (i : Fin 15) : (b.set 15 (b.get 15 + x)).get i.castSucc = b.get i.castSucc := by
    have hne : i.castSucc ≠ 15 := Fin.ne_of_lt (Fin.castSucc_lt_last i)
    rw [set_open_get, if_neg hne]
  simp only [hopen, hstands]
  omega

theorem correctedRise_le (rise : Nat) (measured ref gain : Int) : correctedRise rise measured ref gain ≤ 1023 := by
  have h := (clamp_bounds (lo := 0) (hi := 1023) (by decide) ((rise : Int) + ((measured - ref - rise) * gain).tdiv 256)).2
  unfold correctedRise
  omega

/-! ### A reflected power, case by case (R55 to R59) -/

/-- A chain's record once a reading is evaluated: the probe flag cleared, the return loss stored (R55, R63). -/
def ChainRecord.evaluated (r : ChainRecord) (rl : Int) : ChainRecord := { r with probe := false, lastRL := rl }

/-- The class of a return loss under the thresholds in force (R56). -/
def State.classOf (s : State) (rl : Int) : ReadingClass := classify rl (s.param .detuneThreshold) (s.param .severeThreshold)

/-- A return loss that improves a state reaches the state's threshold and the hysteresis above it (R59). -/
def State.improves (s : State) (m : MismatchState) (rl : Int) : Bool := decide (s.improvingBase m + s.param .hysteresis ≤ rl)

theorem State.evaluateReading_matched {s : State} {c : Chain} (h : (s.ms.get c).state = .matched) (rl : Int) :
    s.evaluateReading c rl = match s.classOf rl with
      | .good => s.setChain c { (s.ms.get c).evaluated rl with confirm := 0 }
      | .poor => (s.setChain c ((s.ms.get c).evaluated rl)).worsen c .detuned
      | .bad => (s.setChain c ((s.ms.get c).evaluated rl)).worsen c .severe := by
  simp only [State.evaluateReading]
  split
  · rfl
  · simp_all
  · simp_all
  · simp_all

theorem State.evaluateReading_detuned {s : State} {c : Chain} (h : (s.ms.get c).state = .detuned) (rl : Int) :
    s.evaluateReading c rl = match s.classOf rl with
      | .bad => (s.setChain c (((s.ms.get c).evaluated rl).improve (s.improves (s.ms.get c).state rl))).worsen c .severe
      | _ => s.setChain c { ((s.ms.get c).evaluated rl).improve (s.improves (s.ms.get c).state rl) with confirm := 0 } := by
  simp only [State.evaluateReading]
  split
  · simp_all
  · rfl
  · simp_all
  · simp_all

theorem State.evaluateReading_severe {s : State} {c : Chain} (h : (s.ms.get c).state = .severe) (rl : Int) :
    s.evaluateReading c rl
      = s.setChain c { ((s.ms.get c).evaluated rl).improve (s.improves (s.ms.get c).state rl) with confirm := 0 } := by
  simp only [State.evaluateReading]
  split
  · simp_all
  · simp_all
  · rfl
  · simp_all

theorem State.evaluateReading_parked {s : State} {c : Chain} (h : (s.ms.get c).state = .parked) (rl : Int) :
    s.evaluateReading c rl = s := by
  simp only [State.evaluateReading]
  split
  · simp_all
  · simp_all
  · simp_all
  · rfl

/-! ### The tick work of the Grant Engine, case by case (R16, R28, R125) -/

/-- GE's tick work before the stream is looked at: every valid slew memory ages (R16). -/
def State.slewsAged (s : State) : State :=
  (s.withInHand { s.inHand with tick := { s.inHand.tick with ordered := false } }).withGe
    { s.ge with slew := ageSlews s.ge.slew (s.param .slewExpiry) }

/-- GE's tick work with a given quiet count and stream state after it. -/
def State.quieted (s : State) (count : Nat) (stream : StreamState) : State :=
  s.slewsAged.withGe { s.slewsAged.ge with quietCount := count, stream := stream }

/-- The quiet count after GE's tick work: it rises while LIVE, unless the tick came before the last order (R28, R152). -/
def State.nextQuietCount (s : State) : Nat :=
  if s.ge.stream = .live ∧ s.inHand.tick.ordered = false then s.ge.quietCount + 1 else s.ge.quietCount

theorem State.tickGe_of_not_due {s : State} (h : s.quietDue = false) :
    s.tickGe = s.quieted s.nextQuietCount s.ge.stream := by
  obtain ⟨stream, ordered, hstream, hordered⟩ :
      ∃ st o, s.ge.stream = st ∧ s.inHand.tick.ordered = o := ⟨_, _, rfl, rfl⟩
  cases stream <;> cases ordered <;>
    simp [State.tickGe, State.nextQuietCount, h, hstream, hordered] <;> simp [State.quieted, State.slewsAged, ← hstream]

theorem State.quietDue_iff (s : State) : s.quietDue = true ↔
    s.ge.stream = .live ∧ s.inHand.tick.ordered = false ∧ s.param .quietTicks ≤ (s.ge.quietCount : Int) + 1 := by
  simp [State.quietDue, and_assoc]

theorem State.tickGe_of_due {s : State} (h : s.quietDue = true) :
    s.tickGe = if s.cb.flip = some .quiet then (s.quieted (s.ge.quietCount + 1) .quiet).applyFlip .quiet
      else s.quieted (s.ge.quietCount + 1) .quiet := by
  obtain ⟨hstream, hordered, -⟩ := s.quietDue_iff.1 h
  simp only [State.tickGe, h, hstream, hordered, if_true]
  rfl

/-! ### The application of a flip in two parts (R126) -/

/-- The bank ids exchanged (R126). -/
def State.banksExchanged (s : State) : State := s.withCb { s.cb with active := s.cb.standbyId }

/-- The slew memory of all four chains cleared (R126). -/
def State.slewCleared (s : State) : State := s.withGe { s.ge with slew := clearSlew s.ge.slew }

/-- The chains absent from the active bank reset, in chain order (R67). -/
def State.absentReset (s : State) : State :=
  (((s.flipResetAbsent 0).flipResetAbsent 1).flipResetAbsent 2).flipResetAbsent 3

/-- The pending flip ended. -/
def State.flipEnded (s : State) : State := s.withCb { s.cb with flip := none }

/-- What the application of a flip does before its FLIP record. -/
def State.exchanged (s : State) : State := s.banksExchanged.slewCleared.absentReset.flipEnded

theorem State.applyFlip_eq (s : State) (p : FlipPoint) :
    s.applyFlip p = (s.exchanged.record (.flip s.exchanged.cb.active p s.exchanged.stamp)).raise .flip := by
  simp only [State.applyFlip, State.exchanged, State.flipEnded, State.absentReset, State.slewCleared, State.banksExchanged]

end Sys2Proof.Machine

namespace Sys2Proof.Safety

open Sys2Proof.Machine

/-! ### Zones and rises (R36, R39, R43) -/

theorem Keeps.evalZone (s : State) (m : Module) : Keeps s (s.evalZone m) := by
  have hzone (z : Zone) : Keeps s (s.withTe (s.te.set m { s.te.get m with zone := z })) :=
    .setModule s m _ fun hs => (thermalSound_iff s).1 hs m
  exact .ite (fun _ => .refl s) fun _ => (hzone _).trans (.record_raise _ (by simp [Record.length]) .zone)

theorem Keeps.evalZones (s : State) : Keeps s s.evalZones := (Keeps.evalZone s .a).trans (.evalZone _ .b)

theorem Keeps.dieCorrection (s : State) (m : Module) (v : Int) : Keeps s (s.dieCorrection m v) :=
  (Keeps.setModule s m { s.te.get m with rise := correctedRise (s.te.get m).rise v s.boardRef (s.param .gamma) }
    fun hs => ⟨correctedRise_le _ _ _ _, ((thermalSound_iff s).1 hs m).2⟩).trans (.evalZone _ m)

theorem Keeps.addHeat (s : State) (m : Module) (amount : Nat) : Keeps s (s.addHeat m amount) :=
  .setModule s m _ fun hs => ⟨((thermalSound_iff s).1 hs m).1, Nat.min_le_left _ _⟩

theorem Keeps.thermalTick (s : State) : Keeps s s.thermalTick :=
  (Keeps.withTe s _ fun _ => (thermalSound_iff _).2 fun m => by
    cases m <;> exact ⟨Nat.min_le_left _ _, Nat.zero_le _⟩).trans (.evalZones _)

/-! ### Mismatch records (R56 to R67) -/

theorem countsInRange.of {s : State} (h : countsInRange s) :
    (1 ≤ s.param .confirm ∧ s.param .confirm ≤ 15) ∧ (1 ≤ s.param .recoverTicks ∧ s.param .recoverTicks ≤ 255)
      ∧ (1 ≤ s.param .severeLimit ∧ s.param .severeLimit ≤ 255) ∧ (1 ≤ s.param .parkTicks ∧ s.param .parkTicks ≤ 255)
      ∧ (1 ≤ s.param .windowTicks ∧ s.param .windowTicks ≤ 255) := by
  simpa [countsInRange, ParamId.range] using h

/-- The record after a change of state fits the new state, as long as PARKED is left for DETUNED alone (R62, R65). -/
theorem chainSound_changed {s : State} (hc : countsInRange s) {r : ChainRecord} {new : MismatchState}
    (h : r.state = .parked → new = .detuned) : chainSound (r.changed new (s.paramNat .parkTicks)) = true := by
  obtain ⟨-, -, -, ⟨hlo, hhi⟩, -⟩ := hc.of
  have hnat : 1 ≤ s.paramNat .parkTicks ∧ s.paramNat .parkTicks ≤ 255 := by
    unfold State.paramNat
    omega
  by_cases hp : r.state = .parked
  · simp [chainSound, ChainRecord.changed, hp, h hp]
  · cases new <;> simp [chainSound, ChainRecord.changed, hp, hnat]

theorem Keeps.changeMismatch (s : State) (c : Chain) (new : MismatchState) (h : (s.ms.get c).state = .parked → new = .detuned) :
    Keeps s (s.changeMismatch c new) :=
  (Keeps.setChain s c _ fun hc _ => chainSound_changed hc h).trans (.record_raise _ (by simp [Record.length]) .mismatch)

theorem Keeps.flipResetChain (s : State) (c : Chain) : Keeps s (s.flipResetChain c) := by
  have hreset : Keeps s (s.setChain c ChainRecord.reset) := .setChain s c _ fun _ _ => rfl
  exact .ite (fun _ => hreset) fun _ => hreset.trans (.record_raise _ (by simp [Record.length]) .mismatch)

theorem Keeps.flipResetAbsent (s : State) (c : Chain) : Keeps s (s.flipResetAbsent c) :=
  .ite (fun _ => .refl s) (fun _ => .flipResetChain s c)

/-- A worsening reading in MATCHED or DETUNED counts, or changes the state (R57, R58). -/
theorem Keeps.worsen (s : State) (c : Chain) (new : MismatchState)
    (h : (s.ms.get c).state = .matched ∨ (s.ms.get c).state = .detuned) : Keeps s (s.worsen c new) := by
  refine .ite (fun _ => .changeMismatch s c new fun hp => ?_) fun hlow => .setChain s c _ fun hc hs => ?_
  · rcases h with h | h <;> rw [h] at hp <;> cases hp
  · obtain ⟨⟨-, hhi⟩, -⟩ := hc.of
    have hcount : (s.ms.get c).confirm + 1 ≤ 14 := by omega
    rcases h with h | h <;> simp_all [chainSound]

/-- The improving rule keeps a record that is DETUNED or SEVERE fitting (R59). -/
theorem chainSound_improve {r : ChainRecord} (h : r.state = .detuned ∨ r.state = .severe) (hs : chainSound r = true)
    (improving : Bool) : chainSound (r.improve improving) = true := by
  unfold ChainRecord.improve
  repeat' split
  · exact hs
  · rcases h with h | h <;> simp_all [chainSound]
  · rcases h with h | h <;> simp_all [chainSound]

theorem improve_state (r : ChainRecord) (improving : Bool) : (r.improve improving).state = r.state := by
  unfold ChainRecord.improve
  (repeat' split) <;> rfl

/-- A record with its probe flag cleared and a return loss stored fits its state as before. -/
theorem chainSound_evaluated {r : ChainRecord} (hs : chainSound r = true) (rl : Int) :
    chainSound { r with probe := false, lastRL := rl } = true := by
  cases hstate : r.state <;> simp_all [chainSound]

theorem chainSound_confirm_zero {r : ChainRecord} (hs : chainSound r = true) : chainSound { r with confirm := 0 } = true := by
  cases hstate : r.state <;> simp_all [chainSound]

theorem Keeps.evaluateReading (s : State) (c : Chain) (rl : Int) : Keeps s (s.evaluateReading c rl) := by
  have hset (r : ChainRecord) (hr : chainSound (s.ms.get c) = true → chainSound r = true) : Keeps s (s.setChain c r) :=
    .setChain s c r fun _ => hr
  have heval (h : chainSound (s.ms.get c) = true) : chainSound ((s.ms.get c).evaluated rl) = true := chainSound_evaluated h rl
  cases hstate : (s.ms.get c).state with
  | matched =>
    have hworse (new : MismatchState) : Keeps s ((s.setChain c ((s.ms.get c).evaluated rl)).worsen c new) :=
      (hset _ heval).trans (.worsen _ c new (.inl (by rw [State.setChain_ms_self]; exact hstate)))
    rw [State.evaluateReading_matched hstate]
    cases s.classOf rl with
    | good => exact hset _ fun h => chainSound_confirm_zero (heval h)
    | poor => exact hworse .detuned
    | bad => exact hworse .severe
  | detuned =>
    have hstate' : ((s.ms.get c).evaluated rl).state = .detuned := hstate
    have himprove (h : chainSound (s.ms.get c) = true) :=
      chainSound_improve (.inl hstate') (heval h) (s.improves (s.ms.get c).state rl)
    have hbetter := hset _ fun h => chainSound_confirm_zero (himprove h)
    rw [State.evaluateReading_detuned hstate]
    cases s.classOf rl with
    | good => exact hbetter
    | poor => exact hbetter
    | bad =>
      exact (hset _ himprove).trans (.worsen _ c .severe (.inr (by
        rw [State.setChain_ms_self, improve_state]
        exact hstate)))
  | severe =>
    have hstate' : ((s.ms.get c).evaluated rl).state = .severe := hstate
    rw [State.evaluateReading_severe hstate]
    exact hset _ fun h => chainSound_confirm_zero (chainSound_improve (.inr hstate') (heval h) _)
  | parked =>
    rw [State.evaluateReading_parked hstate]
    exact .refl s

theorem Keeps.reflDelivered (s : State) (c : Chain) (v : Int) : Keeps s (s.reflDelivered c v) :=
  .ite (fun _ => .evaluateReading s c _) (fun _ => .refl s)

/-- A chain's tick work: counts rise short of their limits, and at a limit the state changes (R60 to R62). -/
theorem Keeps.tickChain (s : State) (c : Chain) : Keeps s (s.tickChain c) := by
  simp only [State.tickChain]
  split
  · exact .refl s
  · rename_i hstate
    refine .ite (fun _ => .changeMismatch s c _ (by simp [hstate])) fun hdue => .setChain s c _ fun hc hs => ?_
    obtain ⟨-, ⟨-, hhi⟩, -⟩ := hc.of
    simp only [State.recoveryDue, hstate, Bool.and_eq_true, not_and, decide_eq_true_eq] at hdue
    split
    · rename_i himproving
      have hcount : (s.ms.get c).recovery + 1 ≤ 254 := by
        have := hdue ⟨by decide, himproving⟩
        omega
      simp_all [chainSound]
    · simp_all [chainSound]
  · rename_i hstate
    refine .ite (fun _ => .changeMismatch s c _ (by simp [hstate])) fun hdue =>
      .ite (fun _ => .changeMismatch s c _ (by simp [hstate])) fun hpark => .setChain s c _ fun hc hs => ?_
    obtain ⟨-, ⟨-, hhi⟩, ⟨-, hhi'⟩, -⟩ := hc.of
    have hsevere : (s.ms.get c).severe + 1 ≤ 254 := by
      simp only [State.parkingDue, hstate, hdue, Bool.and_eq_true, not_and, decide_eq_true_eq] at hpark
      have := hpark ⟨by decide, by decide⟩
      omega
    simp only [State.recoveryDue, hstate, Bool.and_eq_true, not_and, decide_eq_true_eq] at hdue
    split
    · rename_i himproving
      have hcount : (s.ms.get c).recovery + 1 ≤ 254 := by
        have := hdue ⟨by decide, himproving⟩
        omega
      simp_all [chainSound]
    · simp_all [chainSound]
  · rename_i hstate
    refine .ite (fun _ => .changeMismatch s c _ fun _ => rfl) fun hdue => .setChain s c _ fun _ hs => ?_
    have hlong : 1 ≤ (s.ms.get c).park - 1 := by
      simp [State.releaseDue, hstate] at hdue
      omega
    simp_all [chainSound]
    omega

theorem Keeps.tickMs (s : State) : Keeps s s.tickMs :=
  (((Keeps.tickChain s 0).trans (.tickChain _ 1)).trans (.tickChain _ 2)).trans (.tickChain _ 3)

/-! ### The charge window (R76 to R79) -/

theorem Keeps.evalCharge (s : State) : Keeps s s.evalCharge := by
  have hcharge (c : ChargeState) : Keeps s (s.withSa { s.sa with charge := c }) := .withSa s _ fun _ h => h
  simp only [State.evalCharge]
  repeat' split
  · exact .refl s
  · exact (hcharge _).trans (.record_raise _ (by simp [Record.length]) .charge)

theorem Keeps.addCharge (s : State) (amount : Nat) : Keeps s (s.addCharge amount) := by
  refine (Keeps.withSa s _ fun _ hs => ?_).trans (.evalCharge _)
  obtain ⟨hsum, hmax, hcounter⟩ := hs
  refine ⟨?_, fun i => ?_, hcounter⟩
  · simp only [State.withSa_sa, set_open_sum, hsum]
  · simp only [State.withSa_sa, set_open_get]
    have hopen := hmax 15
    repeat' split
    · simp only [SupplyAllocator.added]
      omega
    · exact hmax i

theorem rotateBuckets_le {b : Vector Nat 16} {bound : Nat} (h : ∀ i, b.get i ≤ bound) (i : Fin 16) :
    (rotateBuckets b).get i ≤ bound := by
  refine Fin.lastCases ?_ (fun j => ?_) i
  · exact Nat.zero_le _
  · exact Nat.le_trans (Nat.le_of_eq (rotateBuckets_get b j)) (h _)

theorem Keeps.rotate (s : State) : Keeps s s.rotate := by
  refine (Keeps.withSa s _ fun hc hs => ?_).trans (.evalCharge _)
  obtain ⟨hsum, hmax, -⟩ := hs
  obtain ⟨-, -, -, -, hlo, hhi⟩ := hc.of
  have hrotated := rotateBuckets_sum s.sa.buckets
  refine ⟨?_, rotateBuckets_le hmax, ?_, ?_⟩ <;> simp only [State.withSa_sa, State.paramNat] <;> omega

theorem Keeps.tickSa (s : State) : Keeps s s.tickSa :=
  .ite (fun _ => .rotate s) fun h => .withSa s _ fun _ ⟨hsum, hmax, hlo, hhi⟩ =>
    ⟨hsum, hmax, by simp only [State.withSa_sa]; omega, by simp only [State.withSa_sa]; omega⟩

/-! ### The application of a flip (R121, R126) -/

/-- The checks of a FLIP find the standby bank ready: its references are met, and in ACTIVE it holds a present chain. -/
def flipReady (s : State) : Prop :=
  (∀ r ∈ s.cb.standbyBank.refs, s.cs.satisfies r = true) ∧ (s.ge.mode = .active → s.cb.standbyBank.hasPresent = true)

theorem ConfigBanks.exchange_activeBank (c : ConfigBanks) (f : Option FlipPoint) :
    ({ c with active := c.standbyId, flip := f } : ConfigBanks).activeBank = c.standbyBank := rfl

theorem ConfigBanks.exchange_standbyBank (c : ConfigBanks) (f : Option FlipPoint) :
    ({ c with active := c.standbyId, flip := f } : ConfigBanks).standbyBank = c.activeBank := by
  obtain ⟨b0, b1, active, flip⟩ := c
  match active with
  | 0 | 1 => rfl

/-- The banks may be exchanged when a flip is pending, for then its checks hold still (R104, R4), or when they hold now. -/
theorem Keeps.banksExchanged (s : State) (h : s.cb.flip.isSome = true ∨ flipReady s) :
    Keeps s s.banksExchanged := by
  have hactive := ConfigBanks.exchange_activeBank s.cb s.cb.flip
  have hstandby := ConfigBanks.exchange_standbyBank s.cb s.cb.flip
  refine .withCb s _ id (fun ⟨hrefs, hpend⟩ => ⟨?_, fun _ => ?_⟩) (fun ha hm => ⟨?_, fun _ => ?_⟩)
  · exact hactive ▸ h.elim hpend fun hready => hready.1
  · exact hstandby ▸ hrefs
  · exact hactive ▸ h.elim (ha hm).2 fun hready => hready.2 hm
  · exact hstandby ▸ (ha hm).1

theorem Keeps.slewCleared (s : State) : Keeps s s.slewCleared := .withGe_same s _ rfl

theorem Keeps.absentReset (s : State) : Keeps s s.absentReset :=
  (((Keeps.flipResetAbsent s 0).trans (.flipResetAbsent _ 1)).trans (.flipResetAbsent _ 2)).trans (.flipResetAbsent _ 3)

theorem Keeps.flipEnded (s : State) : Keeps s s.flipEnded :=
  .withCb s _ id (fun ⟨hrefs, _⟩ => ⟨hrefs, fun h => by cases h⟩) (fun ha hm => ⟨(ha hm).1, fun h => by cases h⟩)

theorem Keeps.exchanged (s : State) (h : s.cb.flip.isSome = true ∨ flipReady s) : Keeps s s.exchanged :=
  (((Keeps.banksExchanged s h).trans (.slewCleared _)).trans (.absentReset _)).trans (.flipEnded _)

theorem Keeps.applyFlip (s : State) (p : FlipPoint) (h : s.cb.flip.isSome = true ∨ flipReady s) :
    Keeps s (s.applyFlip p) := by
  rw [State.applyFlip_eq]
  exact (Keeps.exchanged s h).trans (.record_raise _ (by simp [Record.length]) .flip)

/-! ### Telemetry (R131, R136 to R140) -/

theorem Keeps.deliverReading (s : State) (k : ObsKind) (v : Int) : Keeps s (s.deliverReading k v) := by
  cases k with
  | dieA => exact .dieCorrection s .a v
  | dieB => exact .dieCorrection s .b v
  | board => exact .evalZones s
  | fwd c => exact .refl s
  | refl c => exact .reflDelivered s c v
  | battV => exact .refl s

theorem Keeps.setObs (s : State) (k : ObsKind) (o : Observation) : Keeps s (s.setObs k o) := .withTi s _

theorem Keeps.acceptReading (s : State) (k : ObsKind) (v : Int) : Keeps s (s.acceptReading k v) := by
  have hstored := Keeps.setObs s k { value := v, fresh := s.paramNat .staleTicks, saturated := false }
  simp only [State.acceptReading]
  repeat' split
  · exact (hstored.trans (.offerReading _ k v)).trans (.deliverReading _ k v)
  · exact ((hstored.trans (.record_raise _ (by simp [Record.length]) .stale)).trans (.offerReading _ k v)).trans
      (.deliverReading _ k v)

theorem Keeps.handleReading (s : State) (w : Word) : Keeps s (s.handleReading w) := by
  simp only [State.handleReading]
  split
  · exact .refl s
  · exact .ite (fun _ => .setObs s _ _) (fun _ => .acceptReading s _ _)

theorem Keeps.handleReadings (ws : List Word) (s : State) : Keeps s (State.handleReadings ws s) := by
  induction ws generalizing s with
  | nil => exact .refl s
  | cons w ws ih => exact (Keeps.handleReading s w).trans (ih _)

theorem Keeps.endIntake (s : State) (i : Intake) : Keeps s (s.endIntake i) :=
  (Keeps.handleReadings i.rest s).trans (.offerTransit _ i.frame)

theorem Keeps.handleNext (s : State) (i : Intake) (n : Nat) : Keeps s (s.handleNext i n) :=
  .ite (fun _ => .endIntake s i) (fun _ => (Keeps.handleReadings _ s).trans (.withInHand _ _))

theorem Keeps.settleIntake (s : State) : Keeps s s.settleIntake := by
  unfold State.settleIntake
  split
  · exact .refl s
  · exact (Keeps.withInHand s _).trans (.endIntake _ _)

theorem Keeps.observeFurther (s : State) (n : Nat) : Keeps s (s.observeFurther n) := by
  unfold State.observeFurther
  split
  · exact .refl s
  · exact (Keeps.withInHand s _).trans (.handleNext _ _ n)

theorem Keeps.ageKind (s : State) (k : ObsKind) : Keeps s (s.ageKind k) := by
  have haged := Keeps.setObs s k { s.obsOf k with fresh := (s.obsOf k).fresh - 1 }
  exact .ite (fun _ => .refl s) fun _ =>
    .ite (fun _ => haged.trans (.record_raise _ (by simp [Record.length]) .stale)) (fun _ => haged)

theorem Keeps.ageKinds (ks : List ObsKind) (s : State) : Keeps s (State.ageKinds ks s) := by
  induction ks generalizing s with
  | nil => exact .refl s
  | cons k ks ih => exact (Keeps.ageKind s k).trans (ih _)

theorem Keeps.tickTi (s : State) : Keeps s s.tickTi := by
  have haged := (Keeps.settleIntake s).trans (.ageKinds obsAll _)
  exact .ite (fun _ => haged.trans (.evalZones _)) (fun _ => haged)

/-! ### Ticks (R146 to R151) -/

theorem Keeps.quieted (s : State) (count : Nat) (stream : StreamState) : Keeps s (s.quieted count stream) :=
  have haged : Keeps s s.slewsAged := (Keeps.withInHand s _).trans
    (.withGe_same _ { s.ge with slew := ageSlews s.ge.slew (s.param .slewExpiry) } rfl)
  haged.trans (.withGe_same _ { s.slewsAged.ge with quietCount := count, stream := stream } rfl)

theorem Keeps.tickGe (s : State) : Keeps s s.tickGe := by
  cases hdue : s.quietDue with
  | false =>
    rw [State.tickGe_of_not_due hdue]
    exact .quieted s _ _
  | true =>
    have hquiet := Keeps.quieted s (s.ge.quietCount + 1) .quiet
    rw [State.tickGe_of_due hdue]
    refine .ite (fun hflip => hquiet.trans (.applyFlip _ .quiet (.inl ?_))) (fun _ => hquiet)
    exact congrArg Option.isSome hflip

theorem Keeps.blockWork (s : State) (b : TickBlock) : Keeps s (s.blockWork b) := by
  cases b with
  | te => exact .thermalTick s
  | ti => exact .tickTi s
  | ms => exact .tickMs s
  | sa => exact .tickSa s
  | ge => exact .tickGe s

theorem Keeps.takeWork (s : State) (b : TickBlock) : Keeps s (s.takeWork b) :=
  .ite (fun _ => (Keeps.withInHand s _).trans (.blockWork _ b)) (fun _ => .refl s)

theorem Keeps.takeWorks (bs : List TickBlock) (s : State) : Keeps s (State.takeWorks bs s) := by
  induction bs generalizing s with
  | nil => exact .refl s
  | cons b bs ih => exact (Keeps.takeWork s b).trans (ih _)

theorem Keeps.settleTick (s : State) : Keeps s s.settleTick := .ite (fun _ => .takeWorks _ s) (fun _ => .refl s)

theorem Keeps.settleAll (s : State) : Keeps s s.settleAll := (Keeps.settleTick s).trans (.settleIntake _)

theorem Keeps.produceTick (s : State) : Keeps s s.produceTick :=
  ((Keeps.settleTick s).trans (.withTg _ _)).trans (.withInHand _ _)

theorem Keeps.tickEvent (s : State) (phase : TickPhase) (bs : List TickBlock) : Keeps s (s.tickEvent phase bs) := by
  refine .ite (fun _ => .refl s) fun _ => ?_
  cases phase with
  | deliver => exact .takeWorks bs s
  | produce => exact .ite (fun _ => .refl s) (fun _ => (Keeps.produceTick s).trans (.takeWorks bs _))

end Sys2Proof.Safety
end

section
/-! PROOFS. Every request keeps every law: what each request's effect does to the block it writes. -/

namespace Sys2Proof.Machine

/-! ### A record beside an update of the curves (R97) -/

theorem State.noticeTest_withCs (s : State) (x : CurveStore) : (s.withCs x).noticeTest = s.noticeTest.withCs x := by
  simp only [State.noticeTest, apply_ite fun t => State.withCs t x]
  rfl

theorem State.noticeCall_withCs (s : State) (x : CurveStore) : (s.withCs x).noticeCall = s.noticeCall.withCs x := by
  simp only [State.noticeCall, apply_ite fun t => State.withCs t x]
  rfl

theorem State.raise_withCs (s : State) (x : CurveStore) (c : NoticeClass) : (s.withCs x).raise c = (s.raise c).withCs x := by
  have htest := State.noticeTest_withCs (s.withNu { s.nu with pending := s.nu.pending ||| c.bit }) x
  have hcall := State.noticeCall_withCs (s.withNu { s.nu with pending := s.nu.pending ||| c.bit }) x
  simp only [State.raise, apply_ite fun t => State.withCs t x, ← htest, ← hcall]
  rfl

/-- The log and the curves are separate: a record is written before or after the curves change. -/
theorem State.record_withCs (s : State) (x : CurveStore) (r : Record) : (s.withCs x).record r = (s.record r).withCs x := by
  have hlog : ∀ o, (s.withCs x).withOl o = (s.withOl o).withCs x := fun _ => rfl
  simp only [State.record, State.withCs_ol, State.withCs_param, State.withCs_stamp, hlog]
  (repeat' split) <;> simp only [State.raise_withCs]

/-- Which slots are pinned is read from the banks (R103). -/
theorem State.pinned_of_cb {s t : State} (h : t.cb = s.cb) (n : Fin 16) : t.pinned n = s.pinned n := by
  simp only [State.pinned, h]

/-! ### CURVE OPEN, case by case (R96) -/

theorem curveOpenEffect_of_slot_range {args : List Word} (h : 16 ≤ (arg args 0).toNat) (s : State) :
    curveOpenEffect args s = (s, refuse .range) := by
  rw [curveOpenEffect, dif_neg (by omega)]

theorem curveOpenEffect_of_kind_none {args : List Word} (h : CurveKind.ofCode (arg args 1).toNat = none) (s : State) :
    curveOpenEffect args s = (s, refuse .range) := by
  simp only [curveOpenEffect, h]
  split <;> rfl

theorem curveOpenEffect_of_kind {args : List Word} {n : Fin 16} {k : CurveKind} (hn : n.val = (arg args 0).toNat)
    (hk : CurveKind.ofCode (arg args 1).toNat = some k) (s : State) :
    curveOpenEffect args s = if s.pinned n then (s, refuse .inUse) else
      ((s.abandon n).startLoading n k (clamp k.domain.1 k.domain.2 (arg args 2).toInt) (min 7 (arg args 3).toNat),
        done (clamp k.domain.1 k.domain.2 (arg args 2).toInt != (arg args 2).toInt
            || min 7 (arg args 3).toNat != (arg args 3).toNat)
          [arg args 0, arg args 1, Word.ofSigned (clamp k.domain.1 k.domain.2 (arg args 2).toInt),
            Word.ofNatural (min 7 (arg args 3).toNat)]) := by
  have hslot : (arg args 0).toNat < 16 := hn ▸ n.isLt
  obtain rfl : n = ⟨(arg args 0).toNat, hslot⟩ := Fin.ext hn
  simp only [curveOpenEffect, dif_pos hslot, hk]

end Sys2Proof.Machine

namespace Sys2Proof.Safety

open Sys2Proof.Machine

/-! ### Parameters (R177) -/

theorem Keeps.paramStore (p : ParamId) (v : Int) (after : State → State) (hafter : ∀ t, Keeps t (after t)) (s : State) :
    Keeps s (paramStore p v after s).1 := by
  unfold Machine.paramStore
  repeat' split
  · exact .refl s
  · exact (Keeps.setParam s p v).trans (hafter _)

theorem Keeps.enableWritten (before : ClassSet) (s : State) : Keeps s (State.enableWritten before s) :=
  .ite (fun _ => .ite (fun _ => .noticeCall s) (fun _ => .refl s)) (fun _ => .noticeTest s)

theorem Keeps.latchWritten (before : Bool) (s : State) : Keeps s (State.latchWritten before s) :=
  .ite (fun _ => .refl s) fun _ =>
    .ite (fun _ => (Keeps.withNu s { s.nu with owed := false }).trans (.noticeTest _)) (fun _ => .noticeTest s)

theorem Keeps.tickCodeEffect (args : List Word) (s : State) : Keeps s (tickCodeEffect args s).1 :=
  .paramStore _ _ _ (fun t => .withTg t _) s

theorem Keeps.boardFallbackEffect (args : List Word) (s : State) : Keeps s (boardFallbackEffect args s).1 :=
  .paramStore _ _ _ (fun t => .ite (fun _ => .refl t) (fun _ => .evalZones t)) s

theorem Keeps.noticeEnableEffect (args : List Word) (s : State) : Keeps s (noticeEnableEffect args s).1 :=
  .paramStore _ _ _ (Keeps.enableWritten _) s

theorem Keeps.noticeLatchEffect (args : List Word) (s : State) : Keeps s (noticeLatchEffect args s).1 :=
  .paramStore _ _ _ (Keeps.latchWritten _) s

theorem Keeps.paramWriteEffect (args : List Word) (s : State) : Keeps s (paramWriteEffect args s).1 := by
  unfold Machine.paramWriteEffect
  split
  · exact .refl s
  · exact .tickCodeEffect _ s
  · exact .boardFallbackEffect _ s
  · exact .noticeEnableEffect _ s
  · exact .noticeLatchEffect _ s
  · exact .paramStore _ _ id Keeps.refl s

theorem Keeps.paramReadEffect (args : List Word) (s : State) : Keeps s (paramReadEffect args s).1 := by
  unfold Machine.paramReadEffect
  split <;> exact .refl s

/-! ### Modes and sections (R176, R179) -/

theorem Keeps.modeSetEffect (args : List Word) (s : State) : Keeps s (modeSetEffect args s).1 := by
  unfold Machine.modeSetEffect
  split
  · exact .refl s
  · split
    · exact .refl s
    · rename_i hrefused
      refine .withGe s _ fun _ hm => ?_
      have hallowed : s.activeRefused = false := by simpa using fun h => hrefused ⟨hm, h⟩
      simpa [State.activeRefused] using hallowed

theorem Keeps.stateReadEffect (args : List Word) (s : State) : Keeps s (stateReadEffect args s).1 := by
  unfold Machine.stateReadEffect
  split
  · exact .refl s
  · exact .settleAll s

/-! ### Banks (R115 to R124) -/

/-- A descriptor's floor lies at or below its rated max, and its fields within their ranges (R110). -/
def descriptorSound (d : Descriptor) : Prop :=
  d.floor ≤ d.rated ∧ -200 ≤ d.floor ∧ d.rated ≤ 140 ∧ 1 ≤ d.rise ∧ d.rise ≤ 32 ∧ d.priority ≤ 3

theorem descriptorSound_empty : descriptorSound Descriptor.empty := by
  unfold descriptorSound
  decide

theorem pick_cases {α : Type} {P : α → Prop} {x y : α} (hx : P x) (hy : P y) (select : Word) (k : Nat) :
    P (pick select k x y) := by
  unfold pick
  repeat' split
  · exact hx
  · exact hy

/-- A CHAIN WRITE leaves a sound descriptor: every carried value is clamped, and the floor is held (R117). -/
theorem descriptorSound_write {base : Descriptor} (hb : descriptorSound base) (select : Word) (f : List Word) :
    descriptorSound (writeDescriptor base select f).holdFloor := by
  obtain ⟨hfloor, hlo, hhi, hrise, hrise', hpriority⟩ := hb
  have hrated : -200 ≤ (writeDescriptor base select f).rated ∧ (writeDescriptor base select f).rated ≤ 140 :=
    pick_cases (P := fun x => -200 ≤ x ∧ x ≤ 140) (clamp_bounds (by decide) _) ⟨by omega, hhi⟩ _ _
  have hheld : -200 ≤ (writeDescriptor base select f).floor :=
    pick_cases (P := fun x => -200 ≤ x) (clamp_bounds (by decide) _).1 hlo _ _
  have hstep : 1 ≤ (writeDescriptor base select f).rise ∧ (writeDescriptor base select f).rise ≤ 32 :=
    pick_cases (P := fun x => 1 ≤ x ∧ x ≤ 32) (clamp_bounds (by decide) _) ⟨hrise, hrise'⟩ _ _
  have hserve : (writeDescriptor base select f).priority ≤ 3 :=
    pick_cases (P := fun x => x ≤ 3) (by unfold bits; omega) hpriority _ _
  exact ⟨Int.min_le_right _ _, Int.le_min.2 ⟨hheld, hrated.1⟩, hrated.2, hstep.1, hstep.2, hserve⟩

theorem banksSound_standbyBank {s : State} (h : banksSound s) : bankSound s.cb.standbyBank := by
  simp only [ConfigBanks.standbyBank, ConfigBanks.bank]
  repeat' split
  · exact h.1
  · exact h.2

theorem banksSound_activeBank {s : State} (h : banksSound s) : bankSound s.cb.activeBank := by
  simp only [ConfigBanks.activeBank, ConfigBanks.bank]
  repeat' split
  · exact h.1
  · exact h.2

/-- With no flip pending, the standby bank may be replaced by any sound bank. -/
theorem Keeps.setStandbyBank (s : State) (b : Bank) (hflip : s.cb.flip = none) (hb : banksSound s → bankSound b) :
    Keeps s (s.setStandbyBank b) := by
  have hnone : (s.setStandbyBank b).cb.flip.isSome = true → False := by simp [hflip]
  refine .withCb s _ (fun hs => ?_) (fun ⟨hrefs, _⟩ => ⟨?_, fun h => (hnone h).elim⟩)
    (fun ha hm => ⟨?_, fun h => (hnone h).elim⟩)
  · have hnew := hb hs
    unfold ConfigBanks.setStandby
    repeat' split
    · exact ⟨hs.1, hnew⟩
    · exact ⟨hnew, hs.2⟩
  · simpa using hrefs
  · simpa using (ha hm).1

theorem descriptor_set (b : Bank) (n : Nat) (h : n < 4) (d : Descriptor) (c : Chain) :
    ({ b with chains := b.chains.set n d h } : Bank).descriptor c = if c.val = n then d else b.descriptor c := by
  split
  · rename_i hc
    simp [Bank.descriptor, get_eq_getElem, hc]
  · rename_i hc
    simp [Bank.descriptor, get_eq_getElem, Vector.getElem_set_ne _ _ (Ne.symm hc)]

/-- A bank with one descriptor replaced by a sound one is sound (R110). -/
theorem bankSound_set {b : Bank} (hb : bankSound b) {n : Nat} (h : n < 4) {d : Descriptor} (hd : descriptorSound d) :
    bankSound { b with chains := b.chains.set n d h } := by
  intro c
  rw [descriptor_set]
  repeat' split
  · exact hd
  · exact hb c

theorem Keeps.chainWriteEffect (low : BitVec 10) (args : List Word) (s : State) : Keeps s (chainWriteEffect low args s).1 := by
  simp only [Machine.chainWriteEffect]
  split
  · exact .refl s
  · rename_i hpending
    split
    · rename_i hchain
      split
      · exact .refl s
      · refine .setStandbyBank s _ (by simpa using hpending) fun hs =>
          bankSound_set (banksSound_standbyBank hs) hchain (descriptorSound_write ?_ _ _)
        split
        · exact descriptorSound_empty
        · exact banksSound_standbyBank hs _
    · exact .refl s

theorem Keeps.ruleWriteEffect (low : BitVec 10) (args : List Word) (s : State) : Keeps s (ruleWriteEffect low args s).1 := by
  simp only [Machine.ruleWriteEffect]
  split
  · exact .refl s
  · rename_i hpending
    split
    · split
      · exact .refl s
      · exact .setStandbyBank s _ (by simpa using hpending) banksSound_standbyBank
    · exact .refl s

theorem Keeps.headerWriteEffect (low : BitVec 10) (args : List Word) (s : State) : Keeps s (headerWriteEffect low args s).1 := by
  simp only [Machine.headerWriteEffect]
  split
  · exact .refl s
  · rename_i hpending
    split
    · exact .refl s
    · exact .setStandbyBank s _ (by simpa using hpending) banksSound_standbyBank

theorem Keeps.copyEffect (s : State) : Keeps s (copyEffect s).1 := by
  unfold Machine.copyEffect
  split
  · exact .refl s
  · rename_i hpending
    exact .setStandbyBank s _ (by simpa using hpending) banksSound_activeBank

/-- A flip held pending: its checks hold of the standby bank. -/
theorem Keeps.holdFlip (s : State) (p : FlipPoint) (h : flipReady s) : Keeps s (s.withCb { s.cb with flip := some p }) :=
  .withCb s _ id (fun ⟨hrefs, _⟩ => ⟨hrefs, fun _ => h.1⟩) (fun ha hm => ⟨(ha hm).1, fun _ => h.2 hm⟩)

theorem Keeps.flipEffect (args : List Word) (s : State) : Keeps s (flipEffect args s).1 := by
  unfold Machine.flipEffect
  split
  · exact .refl s
  · split
    · exact .refl s
    · split
      · exact .refl s
      · rename_i hrefs
        split
        · exact .refl s
        · rename_i hchain
          have hready : flipReady s :=
            ⟨(State.failingRef_eq_none_iff s).1 hrefs, fun hm => by simpa [hm] using hchain⟩
          repeat' split
          · have happlied := Keeps.applyFlip s .quiet (.inr hready)
            dsimp only
            exact happlied
          · exact .holdFlip s _ hready

theorem Keeps.flipCancelEffect (s : State) : Keeps s (flipCancelEffect s).1 := by
  unfold Machine.flipCancelEffect
  repeat' split
  · exact .flipEnded s
  · exact .refl s

theorem Keeps.tableReadEffect (args : List Word) (s : State) : Keeps s (tableReadEffect args s).1 := by
  unfold Machine.tableReadEffect
  split
  · exact .refl s
  · split <;> exact .refl s

/-! ### Curves (R96 to R106) -/

theorem satisfies_iff (c : CurveStore) (r : RefInForce) :
    c.satisfies r = true ↔ ∃ d, c.slots.get r.slot = .valid d ∧ d.kind = r.kind := by
  unfold CurveStore.satisfies
  split
  · rename_i d hd
    simp [hd]
  · rename_i hd
    simp only [Bool.false_eq_true, false_iff, not_exists, not_and]
    exact fun d h => absurd h (hd d)

/-- A reference in force of the active bank, or of the standby bank while a flip is pending (R103). -/
def inForce (s : State) (r : RefInForce) : Prop :=
  r ∈ s.cb.activeBank.refs ∨ (s.cb.flip.isSome = true ∧ r ∈ s.cb.standbyBank.refs)

theorem referencesSound_iff (s : State) : referencesSound s ↔ ∀ r, inForce s r → s.cs.satisfies r = true :=
  ⟨fun h _ hr => hr.elim (h.1 _) fun hp => h.2 hp.1 _ hp.2,
    fun h => ⟨fun r hr => h r (.inl hr), fun hp r hr => h r (.inr ⟨hp, hr⟩)⟩⟩

theorem pinned_iff (s : State) (n : Fin 16) : s.pinned n = true ↔ ∃ r, inForce s r ∧ r.slot = n := by
  simp only [State.pinned, inForce, Bool.or_eq_true, Bool.and_eq_true, List.any_eq_true, beq_iff_eq]
  constructor
  · rintro (⟨r, hr, hn⟩ | ⟨hp, r, hr, hn⟩)
    · exact ⟨r, .inl hr, hn⟩
    · exact ⟨r, .inr ⟨hp, hr⟩, hn⟩
  · rintro ⟨r, hr | ⟨hp, hr⟩, hn⟩
    · exact .inl ⟨r, hr, hn⟩
    · exact .inr ⟨hp, r, hr, hn⟩

/-- The references in force stay met when every VALID slot that is pinned stands as it was. -/
theorem referencesSound_withCs {s : State} {x : CurveStore} (h : referencesSound s)
    (hvalid : ∀ n d, s.pinned n = true → s.cs.slots.get n = .valid d → x.slots.get n = .valid d) :
    referencesSound (s.withCs x) := by
  rw [referencesSound_iff] at h ⊢
  intro r hr
  obtain ⟨d, hd, hk⟩ := (satisfies_iff _ _).1 (h r hr)
  exact (satisfies_iff _ _).2 ⟨d, hvalid _ d ((pinned_iff s _).2 ⟨r, hr, rfl⟩) hd, hk⟩

theorem slotSound_loading_iff (cursor : Option LoadCursor) (n : Fin 16) (d : CurveData) :
    slotSound cursor n (.loading d) = true ↔ cursor = some { slot := n, cursor := d.ys.length } ∧ d.ys.length ≤ 16 := by
  simp [slotSound]

/-- A slot that is not LOADING stays sound under any cursor that does not name it. -/
theorem slotSound_of_not_named {cursor cursor' : Option LoadCursor} {n : Fin 16} {c : CurveSlot}
    (h : slotSound cursor n c = true) (hload : ∀ d, c ≠ .loading d) (hcursor : cursor'.map LoadCursor.slot ≠ some n) :
    slotSound cursor' n c = true := by
  cases c with
  | loading d => exact absurd rfl (hload d)
  | empty => simpa [slotSound] using hcursor
  | valid d =>
    simp only [slotSound, Bool.and_eq_true, bne_iff_ne, ne_eq] at h ⊢
    obtain ⟨⟨⟨-, hlen⟩, hrange⟩, hshape⟩ := h
    exact ⟨⟨⟨hcursor, hlen⟩, hrange⟩, hshape⟩
  | invalid r d => simpa [slotSound] using hcursor

/-- A slot that the cursor does not name is not LOADING (R91). -/
theorem not_loading_of_not_named {cursor : Option LoadCursor} {n : Fin 16} {c : CurveSlot} (h : slotSound cursor n c = true)
    (hcursor : cursor.map LoadCursor.slot ≠ some n) (d : CurveData) : c ≠ .loading d := by
  rintro rfl
  obtain ⟨rfl, -⟩ := (slotSound_loading_iff ..).1 h
  exact hcursor rfl

/-- The slot that the cursor names is LOADING, with as many values as the cursor counts (R91). -/
theorem loading_of_named {l : LoadCursor} {c : CurveSlot} (h : slotSound (some l) l.slot c = true) :
    ∃ d, c = .loading d ∧ d.ys.length = l.cursor ∧ l.cursor ≤ 16 := by
  cases c with
  | loading d =>
    obtain ⟨hl, hlen⟩ := (slotSound_loading_iff ..).1 h
    have hcursor : l.cursor = d.ys.length := congrArg LoadCursor.cursor (Option.some.inj hl)
    exact ⟨d, rfl, hcursor.symm, by omega⟩
  | empty => simp [slotSound] at h
  | valid d => simp [slotSound] at h
  | invalid r d => simp [slotSound] at h

theorem get_set_slot (v : Vector CurveSlot 16) (n m : Fin 16) (c : CurveSlot) :
    (v.set n.val c n.isLt).get m = if m = n then c else v.get m := by
  split
  · rename_i h
    subst h
    simp [get_eq_getElem]
  · rename_i h
    have hne : n.val ≠ m.val := fun e => h (Fin.ext e).symm
    simp [get_eq_getElem, Vector.getElem_set_ne _ _ hne]

/-- A slot not pinned begins to load, no other slot LOADING (R96, step 3). -/
theorem Keeps.startLoading (s : State) (n : Fin 16) (k : CurveKind) (x0 : Int) (shift : Nat) (hpin : s.pinned n = false)
    (hcursor : ∀ l, s.cs.cursor = some l → l.slot = n) : Keeps s (s.startLoading n k x0 shift) := by
  refine .withCs s _ (fun hs m => ?_) (fun hr => referencesSound_withCs hr fun m d hm hd => ?_)
  · simp only [State.withCs_cs, State.setSlot, get_set_slot]
    split
    · rename_i hm
      subst hm
      simp [slotSound]
    · rename_i hm
      have hold : s.cs.cursor.map LoadCursor.slot ≠ some m := by
        cases hc : s.cs.cursor with
        | none => simp
        | some l => simpa [hcursor l hc] using Ne.symm hm
      exact slotSound_of_not_named (hs m) (not_loading_of_not_named (hs m) hold) (by simpa using Ne.symm hm)
  · have hne : m ≠ n := by
      rintro rfl
      simp [hpin] at hm
    simpa [State.setSlot, get_set_slot, hne] using hd

/-- The slot LOADING becomes INVALID and the cursor is empty. -/
theorem Keeps.closeInvalid (s : State) (l : LoadCursor) (d e : CurveData) (r : InvalidReason) (hl : s.cs.cursor = some l)
    (hd : s.cs.slots.get l.slot = .loading d) :
    Keeps s (s.withCs { slots := s.cs.slots.set l.slot.val (.invalid r e) l.slot.isLt, cursor := none }) := by
  refine .withCs s _ (fun hs m => ?_) (fun hr => referencesSound_withCs hr fun m d' _ hd' => ?_)
  · simp only [State.withCs_cs, get_set_slot]
    split
    · rfl
    · rename_i hm
      have hold : s.cs.cursor.map LoadCursor.slot ≠ some m := by simpa [hl] using Ne.symm hm
      exact slotSound_of_not_named (hs m) (not_loading_of_not_named (hs m) hold) (by simp)
  · have hne : m ≠ l.slot := by
      rintro rfl
      rw [hd] at hd'
      cases hd'
    simpa [get_set_slot, hne] using hd'

/-- A slot that begins to load overwrites the cursor, so abandoning another slot may be read as closing it first (R97). -/
theorem abandon_startLoading {s : State} {l : LoadCursor} {d : CurveData} {n : Fin 16} (hl : s.cs.cursor = some l)
    (hne : l.slot ≠ n) (hd : s.cs.slots.get l.slot = .loading d) (k : CurveKind) (x0 : Int) (shift : Nat) :
    (s.abandon n).startLoading n k x0 shift
      = (((s.withCs { slots := s.cs.slots.set l.slot.val (.invalid .abandoned d) l.slot.isLt, cursor := none }).record
          (.curve l.slot .abandoned s.stamp)).startLoading n k x0 shift) := by
  have habandon : s.abandon n
      = (s.setSlot l.slot (.invalid .abandoned d)).record (.curve l.slot .abandoned s.stamp) := by
    simp only [State.abandon, hl, hne, if_false, hd]
  rw [habandon]
  simp only [State.startLoading, State.setSlot, State.record_withCs, State.withCs_again, State.withCs_cs]

theorem abandon_of_none {s : State} (h : s.cs.cursor = none) (n : Fin 16) : s.abandon n = s := by
  simp only [State.abandon, h]

theorem abandon_of_same {s : State} {l : LoadCursor} (h : s.cs.cursor = some l) : s.abandon l.slot = s := by
  simp only [State.abandon, h, if_true]

theorem startLoading_slot (s : State) (n : Fin 16) (k : CurveKind) (x0 : Int) (shift : Nat) (m : Fin 16) :
    (s.startLoading n k x0 shift).cs.slots.get m
      = if m = n then .loading { kind := k, x0 := x0, shift := shift, ys := [] } else s.cs.slots.get m := by
  simp only [State.startLoading, State.setSlot, State.withCs_cs, get_set_slot]

/-- Of the state before an abandon only a LOADING slot under the cursor changes (R97). -/
theorem Keeps.abandon_startLoading (s : State) (n : Fin 16) (k : CurveKind) (x0 : Int) (shift : Nat)
    (hpin : s.pinned n = false) : Keeps s ((s.abandon n).startLoading n k x0 shift) := by
  cases hl : s.cs.cursor with
  | none =>
    rw [abandon_of_none hl]
    exact .startLoading s n k x0 shift hpin (by simp [hl])
  | some l =>
    by_cases hne : l.slot = n
    · subst hne
      rw [abandon_of_same hl]
      exact .startLoading s _ k x0 shift hpin (by simp [hl])
    · by_cases hd : ∃ d, s.cs.slots.get l.slot = .loading d
      · obtain ⟨d, hd⟩ := hd
        rw [Safety.abandon_startLoading hl hne hd]
        refine ((Keeps.closeInvalid s l d d .abandoned hl hd).trans (.record _ (by simp [Record.length]))).trans
          (.startLoading _ n k x0 shift ?_ (by simp))
        exact (State.pinned_of_cb (State.record_cb ..) n).trans hpin
      · have hstands : s.abandon n = s := by
          simp only [State.abandon, hl, hne, if_false]
          split
          · exact absurd ⟨_, ‹_›⟩ hd
          · rfl
        rw [hstands]
        refine .withCs s _ (fun hs => ?_) (fun hr => referencesSound_withCs hr fun m d' hm hd' => ?_)
        · obtain ⟨d, hload, -⟩ := loading_of_named (hl ▸ hs l.slot)
          exact absurd ⟨d, hload⟩ hd
        · have hmn : m ≠ n := by
            rintro rfl
            simp [hpin] at hm
          simpa [State.setSlot, get_set_slot, hmn] using hd'

theorem Keeps.curveOpenEffect (args : List Word) (s : State) : Keeps s (curveOpenEffect args s).1 := by
  by_cases hslot : (arg args 0).toNat < 16
  · cases hk : CurveKind.ofCode (arg args 1).toNat with
    | none =>
      rw [curveOpenEffect_of_kind_none hk]
      exact .refl s
    | some k =>
      rw [curveOpenEffect_of_kind (n := ⟨_, hslot⟩) rfl hk]
      split
      · exact .refl s
      · rename_i hpin
        exact .abandon_startLoading s _ _ _ _ (by simpa using hpin)
  · rw [curveOpenEffect_of_slot_range (by omega)]
    exact .refl s

/-- The LOADING slot takes more values, the cursor counting them (R98). -/
theorem Keeps.extendLoad (s : State) (l : LoadCursor) (d : CurveData) (more : List Int) (hl : s.cs.cursor = some l)
    (hd : s.cs.slots.get l.slot = .loading d) (hroom : l.cursor + more.length ≤ 16) :
    Keeps s (s.withCs {
      slots := s.cs.slots.set l.slot.val (.loading { d with ys := d.ys ++ more }) l.slot.isLt
      cursor := some { slot := l.slot, cursor := l.cursor + more.length } }) := by
  refine .withCs s _ (fun hs m => ?_) (fun hr => referencesSound_withCs hr fun m d' _ hd' => ?_)
  · obtain ⟨d', hd', hlen, -⟩ := loading_of_named (hl ▸ hs l.slot)
    obtain rfl : d' = d := CurveSlot.loading.inj (hd'.symm.trans hd)
    simp only [State.withCs_cs, get_set_slot]
    split
    · rename_i hm
      subst hm
      rw [slotSound_loading_iff, List.length_append, hlen]
      exact ⟨rfl, hroom⟩
    · rename_i hm
      have hold : s.cs.cursor.map LoadCursor.slot ≠ some m := by simpa [hl] using Ne.symm hm
      exact slotSound_of_not_named (hs m) (not_loading_of_not_named (hs m) hold) (by simpa using Ne.symm hm)
  · have hne : m ≠ l.slot := by
      rintro rfl
      rw [hd] at hd'
      cases hd'
    simpa [get_set_slot, hne] using hd'

/-- The LOADING slot becomes VALID when its seventeen values pass the tests of its kind (R100). -/
theorem Keeps.closeValid (s : State) (l : LoadCursor) (d e : CurveData) (hl : s.cs.cursor = some l)
    (hd : s.cs.slots.get l.slot = .loading d) (hlen : curvesSound s → e.ys.length = 17)
    (hrange : yRangeGood e.kind e.ys = true) (hshape : shapeGood e.kind e.ys = true) :
    Keeps s (s.withCs { slots := s.cs.slots.set l.slot.val (.valid e) l.slot.isLt, cursor := none }) := by
  refine .withCs s _ (fun hs m => ?_) (fun hr => referencesSound_withCs hr fun m d' _ hd' => ?_)
  · simp only [State.withCs_cs, get_set_slot]
    split
    · simp [slotSound, hlen hs, hrange, hshape]
    · rename_i hm
      have hold : s.cs.cursor.map LoadCursor.slot ≠ some m := by simpa [hl] using Ne.symm hm
      exact slotSound_of_not_named (hs m) (not_loading_of_not_named (hs m) hold) (by simp)
  · have hne : m ≠ l.slot := by
      rintro rfl
      rw [hd] at hd'
      cases hd'
    simpa [get_set_slot, hne] using hd'

/-- A close is VALID when both tests pass, and INVALID with a reason otherwise (R100). -/
theorem closeCurve_cases (e : CurveData) :
    (closeCurve e = .valid e ∧ yRangeGood e.kind e.ys = true ∧ shapeGood e.kind e.ys = true)
      ∨ ∃ r, closeCurve e = .invalid r e := by
  unfold closeCurve
  repeat' split
  · exact .inr ⟨_, rfl⟩
  · exact .inr ⟨_, rfl⟩
  · rename_i hrange hshape
    exact .inl ⟨rfl, by simpa using hrange, by simpa using hshape⟩

/-- A load closed with its seventeenth value (R100). -/
theorem Keeps.closeLoad (s : State) (l : LoadCursor) (d e : CurveData) (hl : s.cs.cursor = some l)
    (hd : s.cs.slots.get l.slot = .loading d) (hlen : curvesSound s → e.ys.length = 17) :
    Keeps s ((s.withCs { slots := s.cs.slots.set l.slot.val (closeCurve e) l.slot.isLt, cursor := none }).closeRecord l.slot
      (closeCurve e)) := by
  rcases closeCurve_cases e with ⟨hc, hrange, hshape⟩ | ⟨r, hc⟩
  · rw [hc]
    exact .closeValid s l d e hl hd hlen hrange hshape
  · rw [hc]
    exact (Keeps.closeInvalid s l d e r hl hd).trans (.record _ (by simp [Record.length]))

theorem Keeps.curveDataEffect (args : List Word) (s : State) : Keeps s (curveDataEffect args s).1 := by
  simp only [Machine.curveDataEffect]
  split
  · exact .refl s
  · split
    · exact .refl s
    · rename_i l hl
      split
      · rename_i d hd
        repeat' split
        · exact .refl s
        · rename_i hlast
          refine .closeLoad s l d _ hl hd fun hs => ?_
          obtain ⟨d', hd', hlen, -⟩ := loading_of_named (hl ▸ hs l.slot)
          obtain rfl : d' = d := CurveSlot.loading.inj (hd'.symm.trans hd)
          simpa [hlen] using hlast
        · simpa [State.setSlot] using Keeps.extendLoad s l d (args.map BitVec.toInt) hl hd (by simp; omega)
      · exact .refl s

theorem Keeps.curveReadEffect (args : List Word) (s : State) : Keeps s (curveReadEffect args s).1 := by
  unfold Machine.curveReadEffect
  (repeat' split) <;> exact .refl s

/-! ### The map, the log and the notices (R133, R158, R159, R163) -/

theorem Keeps.mapWriteEffect (args : List Word) (s : State) : Keeps s (mapWriteEffect args s).1 := by
  simp only [Machine.mapWriteEffect]
  repeat' split
  · exact .refl s
  · exact .refl s
  · exact (Keeps.settleIntake s).trans (.withTi _ _)

theorem Keeps.mapReadEffect (args : List Word) (s : State) : Keeps s (mapReadEffect args s).1 := by
  unfold Machine.mapReadEffect
  repeat' split
  · exact .refl s
  · exact .settleIntake s

/-- A LOG READ takes whole records from the oldest end (R158). -/
theorem takeRecords_append (room : Nat) (rs : List Record) : (takeRecords room rs).1 ++ (takeRecords room rs).2 = rs := by
  induction rs generalizing room with
  | nil => rfl
  | cons r rs ih =>
    unfold takeRecords
    repeat' split
    · exact congrArg (r :: ·) (ih _)
    · rfl

/-- A log stays sound when its oldest records leave it, its loss data standing or cleared (R158). -/
theorem logSound_drained {s : State} (hs : logSound s) {taken left : List Record} (h : s.ol.store = taken ++ left)
    {x : ObservationLog} (hstore : x.store = left) (hfill : x.fill = s.ol.fill - recordsLength taken)
    (hlost : x.lost ≤ s.ol.lost) (hfirst : x.firstLoss ≤ s.ol.firstLoss) : logSound (s.withOl x) := by
  obtain ⟨hsum, hmax, hlen, hl, hf⟩ := hs
  rw [h, recordsLength_append] at hsum
  refine ⟨?_, ?_, fun r hr => hlen r ?_, Nat.le_trans hlost hl, Nat.le_trans hfirst hf⟩
  · simp only [State.withOl_ol, hfill, hstore]
    omega
  · simp only [State.withOl_ol, hfill]
    omega
  · rw [h]
    exact List.mem_append_right taken (hstore ▸ hr)

theorem Keeps.logReadEffect (args : List Word) (s : State) : Keeps s (logReadEffect args s).1 := by
  simp only [Machine.logReadEffect]
  have hsplit := (takeRecords_append (arg args 0).toNat s.ol.store).symm
  repeat' split
  · exact .refl s
  · exact .withOl s _ fun hs => logSound_drained hs hsplit rfl rfl (Nat.zero_le _) (Nat.zero_le _)
  · exact .withOl s _ fun hs => logSound_drained hs hsplit rfl rfl (Nat.le_refl _) (Nat.le_refl _)

theorem Keeps.logFlushEffect (s : State) : Keeps s (logFlushEffect s).1 :=
  .withOl s { s.ol with store := [], fill := 0 } fun hs =>
    logSound_drained hs (List.append_nil _).symm rfl (by simp [hs.1]) (Nat.le_refl _) (Nat.le_refl _)

theorem Keeps.noticeClearEffect (args : List Word) (s : State) : Keeps s (noticeClearEffect args s).1 := by
  unfold Machine.noticeClearEffect
  repeat' split
  · exact .refl s
  · exact .withNu s _

end Sys2Proof.Safety
end

section
/-! PROOFS. Slot orders, links and resets keep every law, and so does every step: the invariants of the part. -/

namespace Sys2Proof.Machine

/-! ### How many entries an order has (R1, R2) -/

theorem readEntries_length (ws : List Word) : (readEntries ws).length = ws.length / 2 := by
  induction ws using readEntries.induct with
  | case1 head tail rest ih =>
    simp only [readEntries, List.length_cons, ih]
    omega
  | case2 ws h =>
    match ws, h with
    | [], _ => rfl
    | [_], _ => simp [readEntries]
    | a :: b :: rest, h => exact absurd rfl (h a b rest)

theorem orderLengthGood_iff (n : Nat) : orderLengthGood n = true ↔ n % 2 = 1 ∧ n ≤ 9 := by
  simp [orderLengthGood]

theorem fixedGrants_length (ceiling : Int) (earlier : List Chain) (es : List Entry) :
    (fixedGrants ceiling earlier es).length = es.length := by
  induction es generalizing earlier with
  | nil => rfl
  | cons e es ih => simp [fixedGrants, ih]

theorem State.stageEntries_length (s : State) (earlier : List Chain) (es : List Entry) :
    (s.stageEntries earlier es).length = es.length := by
  induction es generalizing earlier with
  | nil => rfl
  | cons e es ih => simp [State.stageEntries, ih]

theorem State.fitCurrent_length (s : State) (ws : List Working) : (s.fitCurrent ws).length = ws.length := by
  simp [State.fitCurrent]

theorem State.activeGrants_length (s : State) (es : List Entry) : (s.activeGrants es).length = es.length := by
  simp [State.activeGrants, State.fitCurrent_length, State.stageEntries_length]

/-- An order has one grant for each of its entries, in every mode. -/
theorem State.grants_length (s : State) (es : List Entry) : (s.grants es).length = es.length := by
  unfold State.grants
  split
  · exact fixedGrants_length _ _ es
  · exact State.activeGrants_length s es
  · exact State.activeGrants_length s es

theorem changedEntries_length_le (gs : List Grant) : (changedEntries gs).length ≤ gs.length := by
  simpa [changedEntries] using List.length_filter_le _ _

/-- The GRANT record of an order holds at most four entries. -/
theorem grantRecord_fits {s : State} {payload : List Word} (h : orderLengthGood payload.length = true) (m : Bool)
    (slot tick : Nat) : 1 ≤ (Record.grant m slot (changedEntries (s.grants (readEntries (payload.drop 1)))) tick).length
      ∧ (Record.grant m slot (changedEntries (s.grants (readEntries (payload.drop 1)))) tick).length ≤ 6 := by
  obtain ⟨-, hmax⟩ := (orderLengthGood_iff _).1 h
  have hle := changedEntries_length_le (s.grants (readEntries (payload.drop 1)))
  rw [State.grants_length, readEntries_length, List.length_drop] at hle
  simp only [Record.length]
  omega

end Sys2Proof.Machine

namespace Sys2Proof.Safety

open Sys2Proof.Machine

/-! ### Slot orders (R3, R21 to R29) -/

theorem Keeps.queueDown (s : State) (f : Frame) : Keeps s (s.queueDown f) := .withLi_same s _ rfl rfl

theorem Keeps.grantRecord (s : State) (slot : Nat) (gs : List Grant)
    (h : ∀ m tick, 1 ≤ (Record.grant m slot (changedEntries gs) tick).length
      ∧ (Record.grant m slot (changedEntries gs) tick).length ≤ 6) : Keeps s (s.grantRecord slot gs) :=
  .ite (fun _ => .offerGrant s (h _ _) _) (fun _ => .refl s)

theorem Keeps.grantNote (s : State) (slot : Nat) (gs : List Grant) : Keeps s (s.grantNote slot gs) :=
  .ite (fun h => .queueNote s _ ((State.notePlace_iff s).1 h.2.2.2)) (fun _ => .refl s)

theorem Keeps.shedFloorNotices (s : State) (gs : List Grant) : Keeps s (s.shedFloorNotices gs) := by
  have hshed : Keeps s (if gs.any (fun g => g.reason == .shed) then s.raise .shed else s) :=
    .ite (fun _ => .raise s .shed) (fun _ => .refl s)
  exact .ite (fun _ => hshed.trans (.ite (fun _ => .raise _ .floor) (fun _ => .refl _))) (fun _ => .refl s)

theorem Keeps.accountHeat (s : State) (duration : Nat) (c : Chain) (p : Power) : Keeps s (s.accountHeat duration c p) := by
  unfold State.accountHeat
  split
  · exact .refl s
  · exact .ite (fun _ => .addHeat s _ _) (fun _ => .refl s)

theorem Keeps.accountHeats (duration : Nat) (outs : List (Chain × Power)) (s : State) :
    Keeps s (State.accountHeats duration outs s) := by
  induction outs generalizing s with
  | nil => exact .refl s
  | cons x outs ih => exact (Keeps.accountHeat s duration x.1 x.2).trans (ih _)

theorem Keeps.setSlews (gs : List Grant) (s : State) : Keeps s (State.setSlews gs s) := by
  induction gs generalizing s with
  | nil => exact .refl s
  | cons g gs ih =>
    unfold State.setSlews
    split
    · exact ih s
    · refine Keeps.trans ?_ (ih _)
      exact .withGe_same s _ rfl

theorem Keeps.accountSlew (s : State) (gs : List Grant) : Keeps s (s.accountSlew gs) := by
  unfold State.accountSlew
  split
  · exact .refl s
  · exact .setSlews gs s

theorem Keeps.streamLive (s : State) : Keeps s s.streamLive :=
  (Keeps.withGe_same s { s.ge with stream := .live, quietCount := 0 } rfl).trans (.withInHand _ _)

theorem Keeps.settleOrder (s : State) (f : Frame) (gs : List Grant)
    (h : ∀ m tick, 1 ≤ (Record.grant m (slotNumber f.payload) (changedEntries gs) tick).length
      ∧ (Record.grant m (slotNumber f.payload) (changedEntries gs) tick).length ≤ 6) : Keeps s (s.settleOrder f gs) :=
  ((((((Keeps.queueDown s _).trans (.grantRecord _ _ gs h)).trans (.grantNote _ _ gs)).trans
    (.shedFloorNotices _ gs)).trans (.accountHeats _ _ _)).trans (.addCharge _ _)).trans
      ((Keeps.accountSlew _ gs).trans (.streamLive _))

theorem Keeps.frameFlip (s : State) (f : Frame) : Keeps s (s.frameFlip f) :=
  .ite (fun h => .applyFlip s .frame (.inl (by simp [h.2]))) (fun _ => .refl s)

theorem Keeps.govern (s : State) (f : Frame) (h : orderLengthGood f.payload.length = true) : Keeps s (s.govern f) :=
  (Keeps.frameFlip s f).trans (.settleOrder _ f _ fun m tick => grantRecord_fits h m _ tick)

/-! ### Requests and frames (R165 to R168) -/

theorem KeepsLaws.request {effect : State → State × Reply} (h : ∀ t, Keeps t (effect t).1) (s : State) (tag : BitVec 4)
    (code : Nat) (low : BitVec 10) (args : List Word) : KeepsLaws s (s.request tag code low args effect) := by
  refine .ite (fun _ => (Keeps.linkFault s _).toKeepsLaws) fun hplace => .ite (fun _ => .respond s _ _ _ (by omega)) fun _ => ?_
  exact (h s).toKeepsLaws.trans (.respond _ _ _ _ ((h s).room (by omega)))

theorem Bank.descriptor_empty (c : Chain) : Bank.empty.descriptor c = Descriptor.empty := by
  simp [Bank.empty, Bank.descriptor, get_eq_getElem]

/-- The laws of the blocks hold at their reset values. -/
theorem sound_of_blocksReset {t : State} (hparams : t.rh.params = defaultParams) (hge : t.ge = GrantEngine.reset)
    (hte : t.te = ThermalEstimator.reset) (hms : t.ms = Vector.replicate 4 ChainRecord.reset)
    (hsa : t.sa = SupplyAllocator.reset) (hcs : t.cs = CurveStore.reset) (hcb : t.cb = ConfigBanks.reset) :
    paramsSound t ∧ windowSound t ∧ thermalSound t ∧ banksSound t ∧ curvesSound t ∧ referencesSound t ∧ activeSound t
      ∧ mismatchSound t := by
  have hparam (p : ParamId) : t.param p = defaultParams.get p.index := by rw [State.param, hparams]
  have hrange : paramsInRange t := by
    intro p hp
    rw [hparam]
    revert p
    decide
  have hempty : bankSound Bank.empty := fun c => by
    rw [Bank.descriptor_empty]
    exact descriptorSound_empty
  refine ⟨⟨hrange, ?_⟩, ?_, ?_, ?_, ?_, ?_, ?_, ?_⟩
  · simp only [thresholdsOrdered, hparam]
    decide
  · simp only [windowSound, hsa]
    decide
  · simp only [thermalSound, hte]
    decide
  · rw [banksSound, hcb]
    exact ⟨hempty, hempty⟩
  · simp only [curvesSound, hcs]
    decide
  · simp only [referencesSound, hcs, hcb]
    decide
  · simp [activeSound, hge, GrantEngine.reset]
  · simp only [mismatchSound, hms]
    decide

/-- A state whose blocks stand at their reset values meets every law, once its log and queues do. -/
theorem KeepsLaws.of_blocksReset {s t : State} (hparams : t.rh.params = defaultParams) (hge : t.ge = GrantEngine.reset)
    (hte : t.te = ThermalEstimator.reset) (hms : t.ms = Vector.replicate 4 ChainRecord.reset)
    (hsa : t.sa = SupplyAllocator.reset) (hcs : t.cs = CurveStore.reset) (hcb : t.cb = ConfigBanks.reset)
    (hlog : logSound s → logSound t) (hqueues : queuesSound s → queuesSound t) (hpins : t.pins = s.pins) : KeepsLaws s t := by
  obtain ⟨hp, hw, hth, hb, hc, hr, ha, hm⟩ := sound_of_blocksReset hparams hge hte hms hsa hcs hcb
  exact ⟨⟨hlog, hqueues, fun _ => countsInRange_of_paramsInRange hp.1, fun _ => hp, fun _ _ => hw, fun _ => hth,
    fun _ => hb, fun _ => hc, fun _ => hr, fun _ => ha, fun _ _ => hm⟩, hpins⟩

theorem KeepsLaws.hardReset (s : State) : KeepsLaws s s.hardReset :=
  .of_blocksReset rfl rfl rfl rfl rfl rfl rfl (fun _ => by
    simp only [logSound, State.hardReset, ObservationLog.reset]
    simp) (fun _ => by
    simp only [queuesSound, State.hardReset, LinkInterface.reset]
    simp) rfl

theorem KeepsLaws.hardReset_rh (s : State) (cause : ResetCause) (count : Nat) :
    KeepsLaws s { s.hardReset with rh := { params := defaultParams, cause := cause, softCount := count } } :=
  .of_blocksReset rfl rfl rfl rfl rfl rfl rfl (KeepsLaws.hardReset s).log (KeepsLaws.hardReset s).queues
    rfl

theorem KeepsLaws.takeHardReset (s : State) (cause : ResetCause) (count : Nat) :
    KeepsLaws s (s.takeHardReset cause count) :=
  (KeepsLaws.hardReset_rh s cause count).trans (Keeps.record _ (by simp [Record.length])).toKeepsLaws

/-- The state a soft reset leaves before its RESET record (R183). -/
def softBlocks (s : State) (tag : BitVec 4) : State :=
  { s.blocksReset with
    rh := { params := defaultParams, cause := .soft, softCount := nextSoftCount s.rh.softCount }
    ol := s.ol.softReset
    li := s.li.softReset (softResponse tag (nextSoftCount s.rh.softCount)) }

theorem softResetEvent_eq (s : State) (tag : BitVec 4) :
    s.softResetEvent tag = (softBlocks s.settleAll tag).record (.reset .soft 0) := rfl

theorem KeepsLaws.softBlocks (s : State) (tag : BitVec 4) : KeepsLaws s (softBlocks s tag) := by
  refine .of_blocksReset rfl rfl rfl rfl rfl rfl rfl (fun h => h) (fun h => ?_) rfl
  obtain ⟨-, -, -, htransit⟩ := h
  exact ⟨Nat.le_add_left 1 3, Nat.zero_le 3, Nat.zero_le 1, htransit⟩

theorem KeepsLaws.softResetEvent (s : State) (tag : BitVec 4) : KeepsLaws s (s.softResetEvent tag) := by
  rw [softResetEvent_eq]
  exact ((Keeps.settleAll s).toKeepsLaws.trans (.softBlocks _ tag)).trans
    (Keeps.record _ (by simp [Record.length])).toKeepsLaws

theorem KeepsLaws.softResetRequest (s : State) (tag : BitVec 4) (low : BitVec 10) (args : List Word) :
    KeepsLaws s (s.softResetRequest tag low args) :=
  .ite (fun _ => (Keeps.linkFault s _).toKeepsLaws) fun _ =>
    .ite (fun _ => .respond s _ _ _ (by omega)) (fun _ => .softResetEvent s tag)

theorem KeepsLaws.answerUnknown (s : State) (tag : BitVec 4) (code : Nat) (st : Status) :
    KeepsLaws s (s.answerUnknown tag code st) :=
  .ite (fun _ => (Keeps.linkFault s _).toKeepsLaws) (fun _ => .respond s _ _ _ (by omega))

theorem KeepsLaws.serve1to11 {s t : State} {tag : BitVec 4} {low : BitVec 10} {args : List Word} {code : Nat}
    (h : s.serve1to11 tag low args code = some t) : KeepsLaws s t := by
  unfold State.serve1to11 at h
  split at h <;> cases h
  · exact .request Keeps.refl s _ _ _ _
  · exact .request (Keeps.modeSetEffect _) s _ _ _ _
  · exact .request (Keeps.paramWriteEffect _) s _ _ _ _
  · exact .request (Keeps.paramReadEffect _) s _ _ _ _
  · exact .request (Keeps.chainWriteEffect _ _) s _ _ _ _
  · exact .request (Keeps.ruleWriteEffect _ _) s _ _ _ _
  · exact .request (Keeps.headerWriteEffect _ _) s _ _ _ _
  · exact .request Keeps.copyEffect s _ _ _ _
  · exact .request (Keeps.flipEffect _) s _ _ _ _
  · exact .request Keeps.flipCancelEffect s _ _ _ _
  · exact .request (Keeps.tableReadEffect _) s _ _ _ _

theorem KeepsLaws.serve12to21 {s t : State} {tag : BitVec 4} {low : BitVec 10} {args : List Word} {code : Nat}
    (h : s.serve12to21 tag low args code = some t) : KeepsLaws s t := by
  unfold State.serve12to21 at h
  split at h <;> cases h
  · exact .request (Keeps.curveOpenEffect _) s _ _ _ _
  · exact .request (Keeps.curveDataEffect _) s _ _ _ _
  · exact .request (Keeps.curveReadEffect _) s _ _ _ _
  · exact .request (Keeps.mapWriteEffect _) s _ _ _ _
  · exact .request (Keeps.mapReadEffect _) s _ _ _ _
  · exact .request (Keeps.stateReadEffect _) s _ _ _ _
  · exact .request (Keeps.logReadEffect _) s _ _ _ _
  · exact .request Keeps.logFlushEffect s _ _ _ _
  · exact .request (Keeps.noticeClearEffect _) s _ _ _ _
  · exact .softResetRequest s _ _ _

theorem KeepsLaws.serveRequest (s : State) (tag : BitVec 4) (payload : List Word) :
    KeepsLaws s (s.serveRequest tag payload) := by
  unfold State.serveRequest
  split
  · exact .answerUnknown s _ _ _
  · split
    · exact .serve1to11 ‹_›
    · split
      · exact .serve12to21 ‹_›
      · exact .answerUnknown s _ _ _

theorem KeepsLaws.takeRequest (s : State) (f : Frame) : KeepsLaws s (s.takeRequest f) :=
  .ite (fun _ => .serveRequest s _ _) (fun _ => (Keeps.linkFault s _).toKeepsLaws)

theorem KeepsLaws.takeSlotOrder (s : State) (f : Frame) : KeepsLaws s (s.takeSlotOrder f) := by
  have hfault (e : LinkError) : KeepsLaws s ((s.queueDown f).linkFault e) :=
    ((Keeps.queueDown s f).trans (.linkFault _ e)).toKeepsLaws
  exact .ite (fun _ => hfault _) fun _ => .ite (fun _ => hfault _) fun hlen => (Keeps.govern s f (by simpa using hlen)).toKeepsLaws

theorem KeepsLaws.handleDown (s : State) (f : Frame) : KeepsLaws s (s.handleDown f) :=
  .ite (fun _ => .takeSlotOrder s f) fun _ => .ite (fun _ => .takeRequest s f) (fun _ => (Keeps.queueDown s f).toKeepsLaws)

theorem Keeps.takeTelemetry (s : State) (f : Frame) (now : Nat) : Keeps s (s.takeTelemetry f now) :=
  .ite (fun _ => (Keeps.settleIntake s).trans (.handleNext _ _ now))
    (fun _ => ((Keeps.settleIntake s).trans (.linkFault _ .check)).trans (.offerTransit _ f))

theorem Keeps.handleUp (s : State) (f : Frame) : Keeps s (s.handleUp f) :=
  .ite (fun _ => .takeTelemetry s f _) (fun _ => (Keeps.settleIntake s).trans (.offerTransit _ f))

theorem KeepsLaws.handleFrame (s : State) (st : Stream) (f : Frame) : KeepsLaws s (s.handleFrame st f) := by
  cases st with
  | downstream => exact .handleDown s f
  | upstream => exact (Keeps.handleUp s f).toKeepsLaws

theorem Keeps.setRx (s : State) (st : Stream) (r : RxState) : Keeps s (s.setRx st r) := by
  cases st with
  | downstream => exact .withLi_same s _ rfl rfl
  | upstream => exact .withLi_same s _ rfl rfl

theorem KeepsLaws.onFrame {handle : State → State} (h : ∀ t, KeepsLaws t (handle t)) (s : State) (st : Stream) (f : Frame) :
    KeepsLaws s (s.onFrame st f handle) :=
  .ite (fun _ => (Keeps.setRx s st _).toKeepsLaws.trans (h _)) (fun _ => .refl s)

theorem KeepsLaws.rowRequest {effect : State → State × Reply} (h : ∀ t, Keeps t (effect t).1) (s : State) (code : Nat)
    (r : Request) : KeepsLaws s (s.rowRequest code r effect) :=
  .onFrame (fun t => .request h t _ _ _ _) s _ _

theorem KeepsLaws.joinWord (s : State) (st : Stream) (ws : List Word) : KeepsLaws s (s.joinWord st ws) :=
  .ite (fun _ => (Keeps.setRx s st _).toKeepsLaws) fun _ => (Keeps.setRx s st _).toKeepsLaws.trans (.handleFrame _ st _)

theorem KeepsLaws.receiveWord (s : State) (st : Stream) (w : Word) : KeepsLaws s (s.receiveWord st w) := by
  refine .ite (fun _ => .refl s) fun _ => ?_
  split
  · exact .ite (fun _ => .joinWord s st _) (fun _ => .refl s)
  · exact .joinWord s st _

/-! ### Outputs (R166, R170) -/

theorem logsOnly_noticeDeparture (s : State) : logsOnly s s.noticeDeparture := by
  unfold State.noticeDeparture
  split
  · (repeat' split) <;> rfl
  · exact logsOnly_noticeTest s

theorem KeepsLaws.sendTransit (s : State) (f : Frame) (rest : List Frame) (h : s.li.transit = f :: rest) :
    KeepsLaws s (s.sendTransit f rest) :=
  .withLi s _ fun ⟨hlen, hown, hnotice, htransit⟩ => ⟨hlen, hown, hnotice, by
    rw [h, List.length_cons] at htransit
    simp only [State.withLi_li]
    omega⟩

theorem KeepsLaws.sendInsert (s : State) (g : GovFrame) (rest : List GovFrame) (h : s.li.insert = g :: rest) :
    KeepsLaws s (s.sendInsert g rest) := by
  refine (KeepsLaws.withLi s { s.li with insert := rest, outUp := beginSending g.toFrame, lastServed := .insert }
    fun ⟨hlen, hown, hnotice, htransit⟩ => ?_).trans (Keeps.notices ?_ (State.noticeDeparture_ol _)
      (State.noticeDeparture_insert _)).toKeepsLaws
  · rw [h] at hlen hown hnotice
    have hsub := List.sublist_cons_self g rest
    exact ⟨Nat.le_trans hsub.length_le hlen, Nat.le_trans (hsub.filter _).length_le hown,
      Nat.le_trans (hsub.filter _).length_le hnotice, htransit⟩
  · exact logsOnly_noticeDeparture _

theorem KeepsLaws.upstreamOutput (s : State) : KeepsLaws s s.upstreamOutput := by
  unfold State.upstreamOutput
  split
  · exact (Keeps.withLi_same s { s.li with outUp := none } rfl rfl).toKeepsLaws
  · exact .sendTransit s _ _ ‹_›
  · exact .sendInsert s _ _ ‹_›
  · split
    · exact .sendInsert s _ _ ‹_›
    · exact .sendTransit s _ _ ‹_›

theorem Keeps.downstreamOutput (s : State) : Keeps s s.downstreamOutput := by
  unfold State.downstreamOutput
  split
  · exact .withLi_same s _ rfl rfl
  · exact .withLi_same s _ rfl rfl

theorem Keeps.clockCycle (s : State) : Keeps s s.clockCycle := by
  have hwords : Keeps s s.settleIntake.sendWords := (Keeps.settleIntake s).trans (.withLi_same _ _ rfl rfl)
  refine .ite (fun _ => .refl s) fun _ => hwords.trans ?_
  exact .ite (fun _ => .refl _) fun _ => .ite
    (fun _ => .ite (fun _ => (Keeps.produceTick _).trans (.settleTick _)) (fun _ => .withTg _ _)) (fun _ => .withTg _ _)

/-! ### Every command and every step -/

theorem KeepsLaws.of_next {s u t : State} (h : (.next u : Host.Outcome State Fault Refusal) = .next t)
    (hu : KeepsLaws s u) : KeepsLaws s t := by
  cases h
  exact hu

theorem KeepsLaws.execTelemetry {p : TelemetryPart} {count : Nat} {s t : State}
    (h : execTelemetry p count s = .next t) : KeepsLaws s t := by
  cases p with
  | frame b => exact .of_next h (.onFrame (fun t => (Keeps.takeTelemetry t _ count).toKeepsLaws) s _ _)
  | further => exact .of_next h (.ite (fun _ => .refl s) fun _ => (Keeps.observeFurther s count).toKeepsLaws)

/-- The rows that change the pins: the resets and the reference clock. -/
def pinRow : Instr → Bool
  | .powerOnReset | .supplyOutOfRange | .pinResetAssert | .pinResetRelease | .refclkStop | .refclkResume => true
  | _ => false

theorem KeepsLaws.exec {i : Instr} {s t : State} (hi : pinRow i = false) (h : exec i s = .next t) : KeepsLaws s t := by
  have hwork (c : Prop) [Decidable c] (b : TickBlock) : KeepsLaws s (if c then s.takeWork b else s) :=
    (Keeps.ite (fun _ => Keeps.takeWork s b) (fun _ => .refl s)).toKeepsLaws
  cases i with
  | slotOrder b => exact .of_next h (.onFrame (fun t => .takeSlotOrder t _) s _ _)
  | telemetry p count => exact .execTelemetry h
  | upstreamTransitFrame f => exact .of_next h (.onFrame (fun t => (Keeps.handleUp t f).toKeepsLaws) s _ _)
  | downstreamTransitFrame f => exact .of_next h (.onFrame (fun t => .handleDown t f) s _ _)
  | requestDiscarded b => exact .of_next h (.onFrame (fun t => .takeRequest t _) s _ _)
  | requestDropped tag payload => exact .of_next h (.onFrame (fun t => .serveRequest t tag payload) s _ _)
  | unknownRequest tag payload => exact .of_next h (.onFrame (fun t => .serveRequest t tag payload) s _ _)
  | identify r => exact .of_next h (.rowRequest Keeps.refl s _ _)
  | modeSet r => exact .of_next h (.rowRequest (Keeps.modeSetEffect _) s _ _)
  | paramWrite r => exact .of_next h (.rowRequest (Keeps.paramWriteEffect _) s _ _)
  | tickCodeWrite r => exact .of_next h (.rowRequest (Keeps.tickCodeEffect _) s _ _)
  | boardFallbackWrite r => exact .of_next h (.rowRequest (Keeps.boardFallbackEffect _) s _ _)
  | noticeEnableWrite r => exact .of_next h (.rowRequest (Keeps.noticeEnableEffect _) s _ _)
  | noticeLatchWrite r => exact .of_next h (.rowRequest (Keeps.noticeLatchEffect _) s _ _)
  | paramRead r => exact .of_next h (.rowRequest (Keeps.paramReadEffect _) s _ _)
  | chainWrite r => exact .of_next h (.rowRequest (Keeps.chainWriteEffect _ _) s _ _)
  | ruleWrite r => exact .of_next h (.rowRequest (Keeps.ruleWriteEffect _ _) s _ _)
  | headerWrite r => exact .of_next h (.rowRequest (Keeps.headerWriteEffect _ _) s _ _)
  | copy r => exact .of_next h (.rowRequest Keeps.copyEffect s _ _)
  | flip r => exact .of_next h (.rowRequest (Keeps.flipEffect _) s _ _)
  | flipCancel r => exact .of_next h (.rowRequest Keeps.flipCancelEffect s _ _)
  | tableRead r => exact .of_next h (.rowRequest (Keeps.tableReadEffect _) s _ _)
  | curveOpen r => exact .of_next h (.rowRequest (Keeps.curveOpenEffect _) s _ _)
  | curveData r => exact .of_next h (.rowRequest (Keeps.curveDataEffect _) s _ _)
  | curveRead r => exact .of_next h (.rowRequest (Keeps.curveReadEffect _) s _ _)
  | mapWrite r => exact .of_next h (.rowRequest (Keeps.mapWriteEffect _) s _ _)
  | mapRead r => exact .of_next h (.rowRequest (Keeps.mapReadEffect _) s _ _)
  | stateRead r => exact .of_next h (.rowRequest (Keeps.stateReadEffect _) s _ _)
  | logRead r => exact .of_next h (.rowRequest (Keeps.logReadEffect _) s _ _)
  | logFlush r => exact .of_next h (.rowRequest Keeps.logFlushEffect s _ _)
  | noticeClear r => exact .of_next h (.rowRequest (Keeps.noticeClearEffect _) s _ _)
  | softReset r => exact .of_next h (.onFrame (fun t => .softResetRequest t _ _ _) s _ _)
  | tick phase blocks => exact .of_next h (Keeps.tickEvent s phase blocks).toKeepsLaws
  | slewExpiry c => exact .of_next h (hwork _ _)
  | streamQuiet => exact .of_next h (hwork _ _)
  | observationStale k => exact .of_next h (hwork _ _)
  | windowRotation => exact .of_next h (hwork _ _)
  | recovery c => exact .of_next h (hwork _ _)
  | parking c => exact .of_next h (hwork _ _)
  | parkRelease c => exact .of_next h (hwork _ _)
  | upstreamOutputFrame => exact .of_next h (.ite (fun _ => .refl s) fun _ => .upstreamOutput s)
  | downstreamOutputFrame =>
    exact .of_next h (.ite (fun _ => .refl s) fun _ => (Keeps.downstreamOutput s).toKeepsLaws)
  | headerWordReceived st w => exact .of_next h (.receiveWord s st w)
  | powerOnReset | supplyOutOfRange | pinResetAssert | pinResetRelease | refclkStop | refclkResume => cases hi

theorem KeepsInvariants.of_next {s u t : State} (h : (.next u : Host.Outcome State Fault Refusal) = .next t)
    (hu : KeepsInvariants s u) : KeepsInvariants s t := by
  cases h
  exact hu

theorem KeepsInvariants.exec_pinRow {i : Instr} {s t : State} (hi : pinRow i = true) (h : exec i s = .next t) :
    KeepsInvariants s t := by
  cases i with
  | powerOnReset =>
    exact .of_next h ((KeepsInvariants.withPins s { s.pins with supplyOut := false }).trans
      (KeepsLaws.ite (fun _ => .hardReset_rh _ _ _) (fun _ => .takeHardReset _ _ _)).toKeepsInvariants)
  | supplyOutOfRange =>
    exact .of_next h ((KeepsInvariants.withPins s { s.pins with supplyOut := true }).trans
      (KeepsLaws.hardReset_rh _ _ _).toKeepsInvariants)
  | pinResetAssert =>
    exact .of_next h ((KeepsInvariants.withPins s { s.pins with resetLow := true }).trans
      (KeepsLaws.hardReset _).toKeepsInvariants)
  | pinResetRelease =>
    exact .of_next h ((KeepsInvariants.withPins s { s.pins with resetLow := false }).trans
      (KeepsLaws.ite (fun _ => .hardReset _) (fun _ => .takeHardReset _ _ _)).toKeepsInvariants)
  | refclkStop => exact .of_next h ((Keeps.settleTick s).toKeepsInvariants.trans (.withPins _ _))
  | refclkResume => exact .of_next h (.withPins s _)
  | _ => cases hi

/-! ### The invariants of the part -/

/-- Every step keeps every law of a sound state. -/
theorem step_keepsInvariants {s t : State} (h : step s = .next t) : KeepsInvariants s t := by
  unfold step at h
  split at h
  case h_1 => exact .of_next h (Keeps.clockCycle s).toKeepsInvariants
  case h_2 c cs hcs =>
    refine (Keeps.withPending s cs).toKeepsInvariants.trans ?_
    cases hc : pinRow c with
    | false => exact (KeepsLaws.exec hc h).toKeepsInvariants
    | true => exact .exec_pinRow hc h

/-- Settles O5: the blocks stand at their reset values, and no reset holds. -/
theorem resetStateIsSound : Obligations.ResetStateIsSound := by
  obtain ⟨hp, hw, hth, hb, hc, hr, ha, hm⟩ := sound_of_blocksReset (t := State.reset) rfl rfl rfl rfl rfl rfl rfl
  exact ⟨hp, hw, hth, hb, by decide, by decide, hc, hr, ha, hm, fun h => absurd h (by decide)⟩

/-- Settles O6. -/
theorem logStaysSound : Obligations.LogStaysSound := fun _ _ hs hstep => (step_keepsInvariants hstep).log hs

/-- Settles O7. -/
theorem queuesStayWithinTheirPlaces : Obligations.QueuesStayWithinTheirPlaces := fun _ _ hs hstep =>
  (step_keepsInvariants hstep).queues hs

/-- Settles O8: the bound of the counter is that of the parameter it is reloaded from. -/
theorem parametersAndWindowStaySound : Obligations.ParametersAndWindowStaySound := fun _ _ hp hw hstep =>
  ⟨(step_keepsInvariants hstep).params hp, (step_keepsInvariants hstep).window (countsInRange_of_paramsInRange hp.1) hw⟩

/-- Settles O9. -/
theorem thermalAndBankRecordsStayInRange : Obligations.ThermalAndBankRecordsStayInRange := fun _ _ ht hb hstep =>
  ⟨(step_keepsInvariants hstep).thermal ht, (step_keepsInvariants hstep).banks hb⟩

/-- Settles O10. -/
theorem curvesAndReferencesStaySound : Obligations.CurvesAndReferencesStaySound :=
  ⟨fun _ _ hs hstep => (step_keepsInvariants hstep).curves hs, fun _ _ hs hstep => (step_keepsInvariants hstep).references hs⟩

/-- Settles O11. -/
theorem activeModeKeepsAPresentChain : Obligations.ActiveModeKeepsAPresentChain := fun _ _ hs hstep =>
  (step_keepsInvariants hstep).active hs

/-- Settles O12: the parameters that the counts are compared with stand in range. -/
theorem mismatchRecordsFitTheirState : Obligations.MismatchRecordsFitTheirState := fun _ _ hp hs hstep =>
  (step_keepsInvariants hstep).mismatch (countsInRange_of_paramsInRange hp) hs

end Sys2Proof.Safety
end

section
/-! PROOFS. Resets: the reset values, the part while a reset holds, and what each reset leaves (R160, R172, R181 to R183). -/

namespace Sys2Proof.Machine

/-- A record that fits and does not reach the watermark raises nothing (R155, R156). -/
theorem State.record_of_no_crossing {s : State} {r : Record} (hfits : s.ol.fill + r.length ≤ 512)
    (hbelow : ¬ ((s.ol.fill : Int) < s.param .watermark ∧ s.param .watermark ≤ ((s.ol.fill + r.length : Nat) : Int))) :
    s.record r = s.withOl { s.ol with store := s.ol.store ++ [r], fill := s.ol.fill + r.length } := by
  simp only [State.record, ObservationLog.append, if_pos hfits]
  rw [if_neg hbelow, if_neg (by simp)]

/-- A power-on or pin reset that is the last leaves the reset state, but for its cause, its count and its RESET record. -/
theorem State.takeHardReset_eq (s : State) (cause : ResetCause) (count : Nat) :
    s.takeHardReset cause count = { State.reset with
      rh := { params := defaultParams, cause := cause, softCount := count }
      ol := { State.reset.ol with store := [.reset cause 0] }
      pins := s.pins
      pending := s.pending } := by
  have hbelow : ¬ ((ObservationLog.reset.fill : Int) < defaultParams.get ParamId.watermark.index
      ∧ defaultParams.get ParamId.watermark.index ≤ ((1 : Nat) : Int)) := by decide
  exact State.record_of_no_crossing (show 0 + 1 ≤ 512 by decide) hbelow

theorem exec_powerOnReset (s : State) : exec .powerOnReset s = .next
    (if s.pins.resetLow then
      { (s.withPins { s.pins with supplyOut := false }).hardReset with
        rh := { s.rh with params := defaultParams, softCount := 0 } }
    else (s.withPins { s.pins with supplyOut := false }).takeHardReset .powerOn 0) := rfl

theorem exec_pinResetRelease (s : State) : exec .pinResetRelease s = .next
    (if s.pins.supplyOut then (s.withPins { s.pins with resetLow := false }).hardReset
    else (s.withPins { s.pins with resetLow := false }).takeHardReset .pin s.rh.softCount) := rfl

/-! ### While a reset holds (R182) -/

theorem State.receives_of_held {s : State} (h : s.held = true) (st : Stream) (f : Frame) : s.receives st f = false := by
  simp [State.receives, h]

/-- No frame is received. -/
theorem State.onFrame_of_held {s : State} (h : s.held = true) (st : Stream) (f : Frame) (handle : State → State) :
    s.onFrame st f handle = s :=
  s.onFrame_lost st f handle (s.receives_of_held h st f)

theorem TickOwed.get_reset (b : TickBlock) : InHand.reset.tick.get b = false := by
  cases b <;> rfl

end Sys2Proof.Machine

namespace Sys2Proof.Safety

open Sys2Proof.Machine

/-! ### The reset values -/

theorem resetValues_of_blocksReset {t : State} (hparams : t.rh.params = defaultParams) (hge : t.ge = GrantEngine.reset)
    (hte : t.te = ThermalEstimator.reset) (hms : t.ms = Vector.replicate 4 ChainRecord.reset)
    (hsa : t.sa = SupplyAllocator.reset) (hcs : t.cs = CurveStore.reset) (hcb : t.cb = ConfigBanks.reset)
    (hti : t.ti = TelemetryIntake.reset) (htg : t.tg = TickGenerator.reset) (hhand : t.inHand = InHand.reset) :
    resetValues t := by
  unfold resetValues State.obsOf
  rw [hparams, hge, hte, hms, hsa, hcs, hcb, hti, htg]
  exact ⟨rfl, rfl, by decide, rfl, rfl, rfl, rfl, by decide, by decide, rfl, rfl, rfl, by decide, rfl, rfl, by decide, by decide,
    rfl, hhand⟩

/-- Settles O4: the reset state as written in the model, field by field. -/
theorem resetLeavesTheStatedValues : Obligations.ResetLeavesTheStatedValues :=
  ⟨resetValues_of_blocksReset rfl rfl rfl rfl rfl rfl rfl rfl rfl rfl, by decide, rfl, rfl, rfl, rfl, rfl, rfl, rfl, rfl, rfl,
    rfl, rfl, rfl, rfl, rfl, rfl, rfl, by decide, rfl, rfl, by decide, by decide, by decide, by decide, rfl⟩

/-! ### While a reset holds (R182) -/

theorem heldSound_of_not_held {s : State} (h : s.held = false) : heldSound s := fun hheld => by simp [h] at hheld

theorem heldSound_congr {s t : State} (hs : heldSound s) (hpins : t.pins = s.pins) (h : s.hardReset = s → t.hardReset = t) :
    heldSound t := fun ht => h (hs (by rwa [State.held, hpins] at ht))

/-- A state at its hard-reset values owes no tick work. -/
theorem takeWork_of_stands {s : State} (h : s.hardReset = s) (b : TickBlock) : s.takeWork b = s := by
  have hhand : s.inHand = InHand.reset := (congrArg State.inHand h).symm
  exact s.takeWork_done b (by rw [hhand, TickOwed.get_reset])

theorem settleTick_of_stands {s : State} (h : s.hardReset = s) : s.settleTick = s := by
  have hhand : s.inHand = InHand.reset := (congrArg State.inHand h).symm
  exact s.settleTick_none (by rw [hhand]; rfl)

/-- While a reset holds, no row but those of the pins changes anything. -/
theorem exec_of_held {i : Instr} {s : State} (hi : pinRow i = false) (hheld : s.held = true) (hs : s.hardReset = s) :
    exec i s = .next s := by
  have hframe (st : Stream) (f : Frame) (handle : State → State) : s.onFrame st f handle = s :=
    s.onFrame_of_held hheld st f handle
  have hrow (code : Nat) (r : Request) (effect : State → State × Reply) : s.rowRequest code r effect = s := hframe _ _ _
  have hwork (c : Prop) [Decidable c] (b : TickBlock) : (if c then s.takeWork b else s) = s := by
    rw [takeWork_of_stands hs, ite_self]
  cases i with
  | slotOrder | upstreamTransitFrame | downstreamTransitFrame | requestDiscarded | requestDropped | unknownRequest
  | softReset => exact congrArg _ (hframe _ _ _)
  | telemetry p count =>
    cases p with
    | frame b => exact congrArg _ (hframe _ _ _)
    | further => exact congrArg _ (if_pos hheld)
  | identify | modeSet | paramWrite | tickCodeWrite | boardFallbackWrite | noticeEnableWrite | noticeLatchWrite | paramRead
  | chainWrite | ruleWrite | headerWrite | copy | flip | flipCancel | tableRead | curveOpen | curveData | curveRead | mapWrite
  | mapRead | stateRead | logRead | logFlush | noticeClear => exact congrArg _ (hrow _ _ _)
  | slewExpiry | streamQuiet | observationStale | windowRotation | recovery | parking | parkRelease =>
    exact congrArg _ (hwork _ _)
  | tick | upstreamOutputFrame | downstreamOutputFrame | headerWordReceived => exact congrArg _ (if_pos hheld)
  | powerOnReset | supplyOutOfRange | pinResetAssert | pinResetRelease | refclkStop | refclkResume => cases hi

/-- The hard-reset values stand under a change of the pins, and a release that is the last ends the hold. -/
theorem heldSound_exec_pinRow {i : Instr} {s t : State} (hi : pinRow i = true) (hs : heldSound s) (h : exec i s = .next t) :
    heldSound t := by
  cases i with
  | powerOnReset =>
    rw [exec_powerOnReset] at h
    split at h
    · obtain rfl := Host.Outcome.next.inj h
      exact fun _ => rfl
    · obtain rfl := Host.Outcome.next.inj h
      rename_i hlow
      rw [State.takeHardReset_eq]
      exact heldSound_of_not_held (by simpa [State.held] using hlow)
  | supplyOutOfRange =>
    cases h
    exact fun _ => rfl
  | pinResetAssert =>
    cases h
    exact fun _ => rfl
  | pinResetRelease =>
    rw [exec_pinResetRelease] at h
    split at h
    · obtain rfl := Host.Outcome.next.inj h
      exact fun _ => rfl
    · obtain rfl := Host.Outcome.next.inj h
      rename_i hout
      rw [State.takeHardReset_eq]
      exact heldSound_of_not_held (by simpa [State.held] using hout)
  | refclkStop =>
    cases h
    intro hheld
    have hpins : s.settleTick.pins = s.pins := (Keeps.settleTick s).pins
    have hstands : s.hardReset = s := hs (by simpa [State.held, hpins] using hheld)
    rw [settleTick_of_stands hstands]
    exact congrArg (State.withPins · _) hstands
  | refclkResume =>
    cases h
    exact fun hheld => congrArg (State.withPins · _) (hs hheld)
  | _ => cases hi

/-- Settles O13: while a reset holds only the rows of the pins do anything, and they leave the hard-reset values; while
none holds, no other row lets one begin. -/
theorem heldPartStandsAtItsResetValues : Obligations.HeldPartStandsAtItsResetValues := by
  intro s t hs h
  unfold step at h
  split at h
  case h_1 =>
    cases h
    cases hheld : s.held with
    | true => rwa [State.clockCycle, if_pos hheld]
    | false => exact heldSound_of_not_held (by rw [State.held, (Keeps.clockCycle s).pins]; exact hheld)
  case h_2 c cs hcs =>
    have hrest : heldSound (s.withPending cs) := heldSound_congr hs rfl (congrArg (State.withPending · cs))
    cases hc : pinRow c with
    | true => exact heldSound_exec_pinRow hc hrest h
    | false =>
      cases hheld : (s.withPending cs).held with
      | true =>
        rw [exec_of_held hc hheld (hrest hheld)] at h
        cases h
        exact hrest
      | false => exact heldSound_of_not_held (by rw [State.held, (KeepsLaws.exec hc h).pins]; exact hheld)

/-! ### What each reset leaves -/

/-- Settles O50. -/
theorem pinAndSupplyResetsHoldAndRelease : Obligations.PinAndSupplyResetsHoldAndRelease := by
  intro s
  refine ⟨fun hlow => ?_, fun hout => ?_, rfl, rfl, fun hlow => ?_, fun hout => ?_⟩
  · rw [exec_powerOnReset, if_neg (by simp [hlow]), State.takeHardReset_eq]
    rfl
  · rw [exec_pinResetRelease, if_neg (by simp [hout]), State.takeHardReset_eq]
    rfl
  · rw [exec_powerOnReset, if_pos hlow]
    rfl
  · rw [exec_pinResetRelease, if_pos hout]
    rfl

/-- With no class enabled and no latch a raise sets the class pending and does no more (R161). -/
theorem raise_of_none_enabled {s : State} (hlatch : s.param .noticeLatch ≠ 1) (henable : s.enableSet = 0) (c : NoticeClass) :
    s.raise c = s.withNu { s.nu with pending := s.nu.pending ||| c.bit } := by
  rw [raise_of_not_latched hlatch, noticeTest_of_none]
  exact (congrArg ((s.nu.pending ||| c.bit) &&& ·) henable).trans BitVec.and_zero

/-- What a record leaves of the notices when no class is enabled: LOSS and WATERMARK pending where it raises them. -/
theorem record_of_none_enabled {s : State} (hlatch : s.param .noticeLatch ≠ 1) (henable : s.enableSet = 0) (r : Record) :
    s.record r = (s.withOl (s.record r).ol).withNu { s.nu with
      pending := (s.nu.pending
        ||| if s.ol.lost = 0 ∧ (s.ol.append (s.param .logMode == 1) s.stamp r).lostNow ≠ 0 then NoticeClass.loss.bit else 0)
        ||| if (s.ol.fill : Int) < s.param .watermark ∧ s.param .watermark ≤ ((s.record r).ol.fill : Int) then
          NoticeClass.watermark.bit else 0 } := by
  have hraise (x : ObservationLog) (y : NoticeUnit) (c : NoticeClass) : ((s.withOl x).withNu y).raise c
      = (s.withOl x).withNu { y with pending := y.pending ||| c.bit } :=
    raise_of_none_enabled (s := (s.withOl x).withNu y) hlatch henable c
  have hfirst (x : ObservationLog) (c : NoticeClass) : (s.withOl x).raise c
      = (s.withOl x).withNu { s.nu with pending := s.nu.pending ||| c.bit } := hraise x s.nu c
  rw [State.record_ol, State.record]
  have hnone (x : ClassSet) : x ||| 0 = x := BitVec.or_zero
  repeat' split
  · simp only [hfirst, hraise]
  · simp only [hfirst, hnone]
  · simp only [hfirst, hnone]
  · simp only [hnone]
    rfl

/-- The state in which the RESET record of a soft reset is taken meets the log's law, and its log is in OVERWRITE with
watermark 384 and no class enabled. -/
theorem softBlocks_params (s : State) (tag : BitVec 4) (p : ParamId) :
    (softBlocks s tag).param p = defaultParams.get p.index := rfl

/-- An append leaves the two offer counters alone (R157). -/
theorem append_counters (o : ObservationLog) (overwrite : Bool) (stamp : Nat) (r : Record) :
    (o.append overwrite stamp r).log.grantCounter = o.grantCounter
      ∧ (o.append overwrite stamp r).log.readingCounters = o.readingCounters := by
  unfold ObservationLog.append ObservationLog.loseRecords
  (repeat' split) <;> exact ⟨rfl, rfl⟩

/-- A sound log loses records to an append exactly when the new one does not fit (R155). -/
theorem lostNow_ne_zero_iff {s : State} {r : Record} (hs : logSound s) (hr : r.length ≤ 512) (overwrite : Bool) (stamp : Nat) :
    (s.ol.append overwrite stamp r).lostNow ≠ 0 ↔ 512 < s.ol.fill + r.length := by
  obtain ⟨hfill, -⟩ := hs
  rcases Nat.lt_or_ge 512 (s.ol.fill + r.length) with h | h
  · refine iff_of_true ?_ h
    cases overwrite with
    | false => rw [append_of_full_stop h]; exact Nat.one_ne_zero
    | true =>
      rw [append_of_full_overwrite h]
      intro hnone
      obtain ⟨⟨gone, hsplit, hcount⟩, hroom⟩ := dropOldest_spec r.length hr s.ol.store
      have hgone : gone = [] := List.length_eq_zero_iff.1 (hcount.trans hnone)
      rw [hgone, List.nil_append] at hsplit
      rw [← hsplit, ← hfill] at hroom
      omega
  · rw [append_of_fits h]
    simpa using h

/-- A full log in OVERWRITE gives up one record for one more word (R155). -/
theorem record_ol_of_full {s : State} {r : Record} (hsound : logSound s) (hr : r.length = 1) (hfull : s.ol.fill = 512)
    (hm : s.param .logMode = 1) :
    ∃ x rest, s.ol.store = x :: rest ∧ (s.record r).ol.store = rest ++ [r]
      ∧ (s.record r).ol.lost = min 65535 (s.ol.lost + 1) ∧ (s.record r).ol.fill ≤ 512 := by
  obtain ⟨gone, kept, hsplit, hgone, hroom, hfewest, hol⟩ := record_ol_of_overwrite hsound (r := r) (by omega) (by omega) hm
  obtain ⟨hfill, -, hlen, -⟩ := hsound
  obtain ⟨pre, x, rfl⟩ : ∃ pre x, gone = pre ++ [x] := ⟨_, _, (List.dropLast_concat_getLast hgone).symm⟩
  have hone : pre = [] := by
    rcases pre with _ | ⟨y, ys⟩
    · rfl
    · have hy : 1 ≤ y.length := (hlen y (by simp [hsplit])).1
      have hx := hfewest _ x rfl
      rw [hfull, hsplit, recordsLength_append, recordsLength_append] at hfill
      simp only [recordsLength, List.map_cons, List.sum_cons, List.map_nil, List.sum_nil] at hfill hx
      omega
  subst hone
  refine ⟨x, kept, by simpa using hsplit, by rw [hol], by rw [hol]; simp, ?_⟩
  rw [hol]
  exact hroom

/-- A soft reset taken with nothing in hand (R183). -/
theorem exec_softReset {r : Request} {s : State} (h : takes 21 r s) (hhand : nothingInHand s) :
    exec (.softReset r) s = .next ((softBlocks (heard s) r.tag).record (.reset .soft 0)) := by
  have hreceives := takes_receives h
  obtain ⟨-, -, -, hplace, hform, hlength⟩ := h
  have hsettle : (heard s).settleAll = heard s := by
    have htick : (heard s).inHand.tick.any = false := by
      rw [show (heard s).inHand = InHand.reset from hhand]
      rfl
    have hintake : (heard s).inHand.intake = none := congrArg InHand.intake hhand
    rw [State.settleAll, State.settleTick_none _ htick, State.settleIntake_none _ hintake]
  have hevent := softResetEvent_eq (heard s) r.tag
  rw [hsettle] at hevent
  rw [← hevent]
  have htaken : (heard s).softResetRequest r.tag r.low r.args = (heard s).softResetEvent r.tag := by
    rw [State.softResetRequest, if_neg (show ¬ 4 ≤ (heard s).li.insert.length from Nat.not_le.2 (by exact Nat.lt_succ_of_le hplace)),
      if_neg (by simp [hform, hlength])]
  rw [← htaken]
  exact congrArg Host.Outcome.next (State.onFrame_taken _ _ _ _ hreceives)

/-- Settles O49: the blocks by their reset values, the log by its append, the notices by the classes that the record
raises. -/
theorem softResetKeepsTheLogAndTheFrames : Obligations.SoftResetKeepsTheLogAndTheFrames := by
  intro r s htakes hhand hlog
  refine ⟨_, exec_softReset htakes hhand, ?_⟩
  generalize hu : softBlocks (heard s) r.tag = u
  have hparam (p : ParamId) : u.param p = defaultParams.get p.index := by rw [← hu, softBlocks_params]
  have hrecord := record_of_none_enabled (s := u) (by rw [hparam]; decide) (by rw [State.enableSet, hparam]; decide)
    (.reset .soft 0)
  have hoverwrite : u.param .logMode = 1 := by rw [hparam]; decide
  have hwatermark : u.param .watermark = 384 := by rw [hparam]; decide
  have hol : u.ol = s.ol.softReset := by rw [← hu]; rfl
  have hu_log : logSound u := by rw [logSound, hol]; exact hlog
  have hlost : u.ol.lost = s.ol.lost := by rw [hol]; rfl
  have hfillEq : u.ol.fill = s.ol.fill := by rw [hol]; rfl
  have hstore : u.ol.store = s.ol.store := by rw [hol]; rfl
  obtain ⟨-, hmax, -⟩ := hlog
  have hfits (h : s.ol.fill + 1 ≤ 512) : (u.record (.reset .soft 0)).ol
      = { u.ol with store := u.ol.store ++ [.reset .soft 0], fill := u.ol.fill + 1 } :=
    record_ol_of_fits (r := .reset .soft 0) (by rw [hfillEq]; exact h)
  have hfull (h : s.ol.fill = 512) := record_ol_of_full hu_log (r := .reset .soft 0) rfl (hfillEq.trans h) hoverwrite
  have hcounters := append_counters u.ol (u.param .logMode == 1) u.stamp (.reset .soft 0)
  rw [← State.record_ol, hol] at hcounters
  obtain ⟨hgrant, hreading⟩ := hcounters
  have hfields : (u.record (.reset .soft 0)).rh = u.rh ∧ (u.record (.reset .soft 0)).li = u.li
      ∧ (u.record (.reset .soft 0)).nu.owed = u.nu.owed := by
    rw [hrecord]
    exact ⟨rfl, rfl, rfl⟩
  obtain ⟨hrh, hli, howed⟩ := hfields
  have hpending : (u.record (.reset .soft 0)).nu.pending
      = ((if s.ol.fill = 512 ∧ s.ol.lost = 0 then NoticeClass.loss.bit else 0)
        ||| if s.ol.fill = 383 then NoticeClass.watermark.bit else 0) := by
    have hloss : (u.ol.lost = 0 ∧ (u.ol.append (u.param .logMode == 1) u.stamp (.reset .soft 0)).lostNow ≠ 0)
        ↔ (s.ol.fill = 512 ∧ s.ol.lost = 0) := by
      rw [hlost, lostNow_ne_zero_iff hu_log (by decide), hfillEq]
      exact ⟨fun ⟨hl, hf⟩ => ⟨by change 512 < _ + 1 at hf; omega, hl⟩, fun ⟨hf, hl⟩ => ⟨hl, by rw [hf]; decide⟩⟩
    have hcross : ((u.ol.fill : Int) < u.param .watermark ∧ u.param .watermark ≤ ((u.record (.reset .soft 0)).ol.fill : Int))
        ↔ s.ol.fill = 383 := by
      rw [hwatermark, hfillEq]
      rcases Nat.lt_or_ge s.ol.fill 512 with h | h
      · rw [show (u.record (.reset .soft 0)).ol.fill = s.ol.fill + 1 by rw [hfits h, hfillEq]]
        omega
      · omega
    rw [hrecord]
    simp only [hloss, hcross, State.withNu_nu]
    rw [← hu]
    exact congrArg (· ||| _) BitVec.zero_or
  have hreset : resetValues (u.record (.reset .soft 0)) := by
    rw [hrecord, ← hu]
    exact resetValues_of_blocksReset rfl rfl rfl rfl rfl rfl rfl rfl rfl rfl
  have hpins : (u.record (.reset .soft 0)).pins = s.pins ∧ (u.record (.reset .soft 0)).pending = s.pending := by
    rw [hrecord, ← hu]
    exact ⟨rfl, rfl⟩
  refine ⟨hreset, by rw [hrh, ← hu]; rfl, by rw [hrh, ← hu]; rfl, by rw [hli, ← hu]; rfl, by rw [hli, ← hu]; rfl,
    by rw [hli, ← hu]; rfl, by rw [hli, ← hu]; rfl, by rw [hli, ← hu]; rfl, by rw [hli, ← hu]; rfl, by rw [hli, ← hu]; rfl,
    by rw [hli, ← hu]; rfl, newest_record hoverwrite _, fun h => ?_, fun h => ?_, hgrant, fun k => ?_, by rw [howed, ← hu]; rfl,
    hpending, by rw [hli, ← hu]; rfl, by rw [hli, ← hu]; rfl, hpins⟩
  · rw [hfits h, hstore, hfillEq]
    exact ⟨rfl, rfl, hlost, by rw [hol]; rfl⟩
  · obtain ⟨x, rest, hsplit, hafter, hcount, -⟩ := hfull h
    rw [hstore] at hsplit
    rw [hlost] at hcount
    exact ⟨x, rest, hsplit, hafter, hcount⟩
  · rw [hreading, get_eq_getElem]
    exact Vector.getElem_replicate _

end Sys2Proof.Safety
end

section
/-! PROOFS. The clock and the tick: one reference cycle per step on an empty queue, a tick every period, and its work taken
once by each block (R146, R149, R151). -/

namespace Sys2Proof.Machine

/-! ### What each block's tick work leaves of the tick in hand (R151, R152) -/

@[simp] theorem State.offerTransit_inHand (s : State) (f : Frame) : (s.offerTransit f).inHand = s.inHand := by
  unfold State.offerTransit
  split <;> simp

@[simp] theorem State.settleIntake_tick (s : State) : s.settleIntake.inHand.tick = s.inHand.tick := by
  unfold State.settleIntake
  split <;> simp [State.endIntake, State.clearIntake]

/-- No frame is in hand once it has been ended. -/
theorem State.settleIntake_intake (s : State) : s.settleIntake.inHand.intake = none := by
  unfold State.settleIntake
  split
  · assumption
  · simp [State.endIntake, State.clearIntake]

@[simp] theorem State.tickTi_tick (s : State) : s.tickTi.inHand.tick = s.inHand.tick := by
  simp only [State.tickTi]
  split <;> simp

theorem State.blockWork_get (s : State) (a b : TickBlock) : (s.blockWork a).inHand.tick.get b = s.inHand.tick.get b := by
  cases a <;> cases b <;> simp [State.blockWork, TickOwed.get]

theorem State.blockWork_ordered {s : State} (h : s.inHand.tick.ordered = false) (a : TickBlock) :
    (s.blockWork a).inHand.tick.ordered = false := by
  cases a <;> simp [State.blockWork, h]

/-- A block that takes its work owes it no longer, and no other block's debt changes (R151). -/
theorem State.takeWork_get {s : State} (hclock : s.pins.refclkAbsent = false) (a b : TickBlock) :
    (s.takeWork a).inHand.tick.get b = (s.inHand.tick.get b && b != a) := by
  cases ha : s.inHand.tick.get a with
  | false =>
    rw [s.takeWork_done a ha]
    by_cases hb : b = a
    · simp [hb, ha]
    · simp [hb]
  | true =>
    rw [s.takeWork_owed a ha hclock, State.blockWork_get, State.withInHand_inHand]
    by_cases hb : b = a
    · simp [hb, TickOwed.get_taken_self]
    · simp [hb, TickOwed.get_taken_of_ne _ _ _ hb]

theorem TickOwed.taken_ordered (o : TickOwed) (b : TickBlock) : (o.taken b).ordered = o.ordered := by
  cases b <;> rfl

theorem State.takeWork_ordered {s : State} (h : s.inHand.tick.ordered = false) (a : TickBlock) :
    (s.takeWork a).inHand.tick.ordered = false := by
  unfold State.takeWork
  split
  · exact State.blockWork_ordered (by simpa [TickOwed.taken_ordered] using h) a
  · exact h

theorem TickOwed.any_eq_false_iff (o : TickOwed) : o.any = false ↔ ∀ b, o.get b = false := by
  constructor
  · intro h b
    simp only [TickOwed.any, Bool.or_eq_false_iff] at h
    obtain ⟨⟨⟨⟨hte, hti⟩, hms⟩, hsa⟩, hge⟩ := h
    cases b <;> assumption
  · intro h
    simp [TickOwed.any, show o.te = false from h .te, show o.ti = false from h .ti, show o.ms = false from h .ms,
      show o.sa = false from h .sa, show o.ge = false from h .ge]

theorem TickOwed.eq_reset {o : TickOwed} (h : ∀ b, o.get b = false) (hordered : o.ordered = false) : o = InHand.reset.tick := by
  obtain ⟨te, ti, ms, sa, ge, ordered⟩ := o
  obtain rfl : te = false := h .te
  obtain rfl : ti = false := h .ti
  obtain rfl : ms = false := h .ms
  obtain rfl : sa = false := h .sa
  obtain rfl : ge = false := h .ge
  obtain rfl : ordered = false := hordered
  rfl

theorem mem_allBlocks (b : TickBlock) : b ∈ allBlocks := by
  cases b <;> decide

end Sys2Proof.Machine

namespace Sys2Proof.Safety

open Sys2Proof.Machine

/-! ### What lies outside the reach of tick work and of a telemetry frame -/

/-- The parameters and the cause record, the curves, the tick counters, the pins and the queue of commands stand. -/
structure Aside (s t : State) : Prop where
  rh : t.rh = s.rh
  cs : t.cs = s.cs
  tg : t.tg = s.tg
  pins : t.pins = s.pins
  pending : t.pending = s.pending

theorem Aside.refl (s : State) : Aside s s := ⟨rfl, rfl, rfl, rfl, rfl⟩

theorem Aside.trans {s t u : State} (hst : Aside s t) (htu : Aside t u) : Aside s u :=
  ⟨htu.rh.trans hst.rh, htu.cs.trans hst.cs, htu.tg.trans hst.tg, htu.pins.trans hst.pins, htu.pending.trans hst.pending⟩

theorem Aside.of_logsOnly {s t : State} (h : logsOnly s t) : Aside s t := by
  rw [logsOnly] at h
  rw [h]
  exact ⟨rfl, rfl, rfl, rfl, rfl⟩

theorem Aside.withInHand (s : State) (x : InHand) : Aside s (s.withInHand x) := ⟨rfl, rfl, rfl, rfl, rfl⟩

theorem Aside.withLi (s : State) (x : LinkInterface) : Aside s (s.withLi x) := ⟨rfl, rfl, rfl, rfl, rfl⟩

theorem Aside.offerTransit (s : State) (f : Frame) : Aside s (s.offerTransit f) := by
  unfold State.offerTransit
  split
  · exact .withLi s _
  · exact .of_logsOnly (logsOnly_linkFault s _)

theorem Aside.handleReadings (s : State) (ws : List Word) : Aside s (State.handleReadings ws s) :=
  ⟨by simp, by simp, by simp, by simp, by simp⟩

theorem Aside.settleIntake (s : State) : Aside s s.settleIntake := by
  unfold State.settleIntake
  split
  · exact .refl s
  · exact ((Aside.withInHand s _).trans (.handleReadings _ _)).trans (.offerTransit _ _)

theorem Aside.tickTi (s : State) : Aside s s.tickTi := by
  refine (Aside.settleIntake s).trans ?_
  simp only [State.tickTi]
  split <;> exact ⟨by simp, by simp, by simp, by simp, by simp⟩

theorem Aside.blockWork (s : State) (b : TickBlock) : Aside s (s.blockWork b) := by
  cases b with
  | ti => exact .tickTi s
  | te | ms | sa | ge =>
    constructor <;> simp [State.blockWork]

theorem Aside.takeWork (s : State) (b : TickBlock) : Aside s (s.takeWork b) := by
  unfold State.takeWork
  split
  · exact (Aside.withInHand s _).trans (.blockWork _ b)
  · exact .refl s

theorem Aside.takeWorks (bs : List TickBlock) (s : State) : Aside s (State.takeWorks bs s) := by
  induction bs generalizing s with
  | nil => exact .refl s
  | cons b bs ih => exact (Aside.takeWork s b).trans (ih _)

theorem Aside.settleTick (s : State) : Aside s s.settleTick := by
  unfold State.settleTick
  split
  · exact .takeWorks _ s
  · exact .refl s

/-- Of a list of blocks each owes no work once the list has been worked through. -/
theorem takeWorks_get {s : State} (hclock : s.pins.refclkAbsent = false) (bs : List TickBlock) (b : TickBlock) :
    (State.takeWorks bs s).inHand.tick.get b = (s.inHand.tick.get b && !bs.contains b) := by
  induction bs generalizing s with
  | nil => simp [State.takeWorks]
  | cons a bs ih =>
    have hclock' : (s.takeWork a).pins.refclkAbsent = false := by rw [(Aside.takeWork s a).pins, hclock]
    rw [State.takeWorks, ih hclock', State.takeWork_get hclock, List.contains_cons, Bool.not_or, Bool.and_assoc]
    rfl

theorem takeWorks_ordered {s : State} (h : s.inHand.tick.ordered = false) (bs : List TickBlock) :
    (State.takeWorks bs s).inHand.tick.ordered = false := by
  induction bs generalizing s with
  | nil => exact h
  | cons a bs ih => exact ih (State.takeWork_ordered h a)

/-- A list that names every block leaves no work owed. -/
theorem takeWorks_all {s : State} (hclock : s.pins.refclkAbsent = false) {bs : List TickBlock} (hbs : ∀ b, b ∈ bs)
    (b : TickBlock) : (State.takeWorks bs s).inHand.tick.get b = false := by
  rw [takeWorks_get hclock, List.contains_iff_mem.2 (hbs b)]
  simp

/-- The order in which a tick in hand is ended names every block. -/
theorem mem_settleOrder (l : List TickBlock) (b : TickBlock) : b ∈ l ++ allBlocks :=
  List.mem_append_right _ (mem_allBlocks b)

/-! ### Ticks (R149, R151) -/

theorem exec_tick (phase : TickPhase) (bs : List TickBlock) (s : State) :
    exec (.tick phase bs) s = .next (s.tickEvent phase bs) := rfl

theorem exec_tick_deliver {s : State} (hheld : s.held = false) (bs : List TickBlock) :
    exec (.tick .deliver bs) s = .next (State.takeWorks bs s) := by
  exact congrArg _ (if_neg (by simp [hheld]))

theorem exec_tick_produce {s : State} (hheld : s.held = false) (hclock : s.pins.refclkAbsent = false) (bs : List TickBlock) :
    exec (.tick .produce bs) s = .next (State.takeWorks bs s.produceTick) := by
  exact congrArg _ ((if_neg (by simp [hheld])).trans (if_neg (by simp [hclock])))

/-- Blocks brought their work one by one take it as from one list. -/
theorem execAll_deliver {s : State} (hheld : s.held = false) (bs : List TickBlock) :
    execAll (bs.map fun b => .tick .deliver [b]) s = .next (State.takeWorks bs s) := by
  induction bs generalizing s with
  | nil => rfl
  | cons b bs ih =>
    have hheld' : (s.takeWork b).held = false := by rw [State.held, (Aside.takeWork s b).pins]; exact hheld
    rw [List.map_cons, execAll, exec_tick_deliver hheld]
    exact ih hheld'

/-- Settles O51: production by its definition, and the work of a list by induction on the list. -/
theorem ticksAreNumberedAndTakenOnce : Obligations.TicksAreNumberedAndTakenOnce := by
  intro s
  refine ⟨fun hheld hclock htick => ?_, fun bs hheld hclock => ?_, fun b hheld hclock howed => ?_, fun b hdone => ?_,
    fun phase bs hclock => ?_, fun phase bs hheld => ?_, fun hnone => ?_, fun hclock => ?_, rfl⟩
  · have hnone : s.inHand.tick.any = false := by rw [htick]; rfl
    rw [exec_tick_produce hheld hclock, State.takeWorks, State.produceTick, State.settleTick_none s hnone]
    rfl
  · have hheld' : s.produceTick.held = false := by
      rw [State.held, show s.produceTick.pins = s.settleTick.pins from rfl, (Aside.settleTick s).pins]
      exact hheld
    rw [execAll, exec_tick_produce hheld hclock, exec_tick_produce hheld hclock]
    exact (execAll_deliver hheld' bs).symm
  · rw [exec_tick_deliver hheld, State.takeWorks, State.takeWorks, State.takeWork_owed s b howed hclock]
  · cases hheld : s.held with
    | true => exact congrArg _ (if_pos hheld)
    | false => rw [exec_tick_deliver hheld, State.takeWorks, State.takeWorks, State.takeWork_done s b hdone]
  · rw [exec_tick]
    cases phase with
    | deliver => simp [State.tickEvent, State.takeWorks_absent s bs hclock]
    | produce => simp [State.tickEvent, hclock]
  · exact congrArg _ (if_pos hheld)
  · exact congrArg (fun t => Host.Outcome.next (State.withPins t _)) (State.settleTick_none s hnone)
  · have haside := Aside.settleTick s
    refine ⟨_, rfl, ?_, rfl, haside.tg, haside.rh, haside.cs, haside.pending⟩
    rw [State.withPins_inHand, TickOwed.any_eq_false_iff]
    cases hany : s.inHand.tick.any with
    | false => rwa [State.settleTick_none s hany, ← TickOwed.any_eq_false_iff]
    | true =>
      rw [State.settleTick, if_pos hany]
      exact takeWorks_all hclock (mem_settleOrder _)

/-! ### One step on an empty queue (R146, R165) -/

/-- Settles O1. -/
theorem stepTakesTheFrontCommand : Obligations.StepTakesTheFrontCommand := fun _ _ _ => rfl

theorem step_of_idle {s : State} (h : s.pending = []) : step s = .next s.clockCycle := by
  rw [step, h]

theorem Aside.sendWords (s : State) : Aside s s.settleIntake.sendWords := (Aside.settleIntake s).trans (.withLi _ _)

theorem clockCycle_of_not_held {s : State} (h : s.held = false) :
    s.clockCycle = s.settleIntake.sendWords.referenceCycle := by
  rw [State.clockCycle, if_neg (by simp [h])]

theorem clockCycle_absent {s : State} (hheld : s.held = false) (hclock : s.pins.refclkAbsent = true) :
    s.clockCycle = s.settleIntake.sendWords := by
  rw [clockCycle_of_not_held hheld, State.referenceCycle, if_pos (by rw [(Aside.sendWords s).pins, hclock])]

theorem clockCycle_counts {s : State} (hheld : s.held = false) (hclock : s.pins.refclkAbsent = false)
    (h : s.tg.prescaler + 1 < 19200) :
    s.clockCycle = s.settleIntake.sendWords.withTg { s.tg with prescaler := s.tg.prescaler + 1 } := by
  rw [clockCycle_of_not_held hheld, State.referenceCycle, if_neg (by rw [(Aside.sendWords s).pins, hclock]; decide),
    (Aside.sendWords s).tg, if_neg (by omega)]

theorem clockCycle_millisecond {s : State} (hheld : s.held = false) (hclock : s.pins.refclkAbsent = false)
    (h : 19200 ≤ s.tg.prescaler + 1) : s.clockCycle = s.settleIntake.sendWords.millisecond := by
  rw [clockCycle_of_not_held hheld, State.referenceCycle, if_neg (by rw [(Aside.sendWords s).pins, hclock]; decide),
    (Aside.sendWords s).tg, if_pos h]

theorem millisecond_counts {u : State} (h : u.tg.divider + 1 < 2 ^ u.paramNat .tickCode) :
    u.millisecond = u.withTg { u.tg with prescaler := 0, divider := u.tg.divider + 1 } := by
  rw [State.millisecond, if_neg (by omega)]

/-- A tick produced and brought to every block (R146, R149, R151). -/
theorem millisecond_produces {u : State} (hheld : u.held = false) (hclock : u.pins.refclkAbsent = false)
    (h : 2 ^ u.paramNat .tickCode ≤ u.tg.divider + 1) :
    (∃ bs, (∀ b : TickBlock, b ∈ bs) ∧ exec (.tick .produce bs) u = .next u.millisecond)
      ∧ u.millisecond.inHand.tick = InHand.reset.tick
      ∧ u.millisecond.tg = { prescaler := 0, divider := 0, counter := (u.tg.counter + 1) % 16777216 }
      ∧ u.millisecond.rh = u.rh ∧ u.millisecond.cs = u.cs ∧ u.millisecond.pins = u.pins ∧ u.millisecond.pending = u.pending := by
  have hsettle : u.produceTick.settleTick
      = State.takeWorks (Config.tickOrder u.produceTick.tg.counter ++ allBlocks) u.produceTick := if_pos rfl
  have hms : u.millisecond = u.produceTick.settleTick := by rw [State.millisecond, if_pos h]
  have hbefore := Aside.settleTick u
  have hafter := Aside.takeWorks (Config.tickOrder u.produceTick.tg.counter ++ allBlocks) u.produceTick
  have hclock' : u.produceTick.pins.refclkAbsent = false := by
    rw [show u.produceTick.pins = u.settleTick.pins from rfl, hbefore.pins, hclock]
  rw [hms, hsettle]
  refine ⟨⟨_, mem_settleOrder _, exec_tick_produce hheld hclock _⟩,
    TickOwed.eq_reset (takeWorks_all hclock' (mem_settleOrder _)) (takeWorks_ordered rfl _), ?_,
    hafter.rh.trans hbefore.rh, hafter.cs.trans hbefore.cs, hafter.pins.trans hbefore.pins,
    hafter.pending.trans hbefore.pending⟩
  rw [hafter.tg, ← hbefore.tg]
  rfl

theorem advance_some (x : Sending) : advance (some x)
    = if (frameWords x.frame).length ≤ x.sent + 1 then none else some { frame := x.frame, sent := x.sent + 1 } := rfl

/-- The frame rule of O2 and what each output sends. -/
theorem sendWords_laws (s : State) :
    (s.li.outUp = none → s.sendWords.li.wordUp = 0xFFFF) ∧ (s.li.outDown = none → s.sendWords.li.wordDown = 0xFFFF)
      ∧ (∀ x, s.li.outUp = some x → x.sent < (frameWords x.frame).length →
          (frameWords x.frame)[x.sent]? = some s.sendWords.li.wordUp)
      ∧ (∀ x, s.li.outDown = some x → x.sent < (frameWords x.frame).length →
          (frameWords x.frame)[x.sent]? = some s.sendWords.li.wordDown)
      ∧ (s.li.outUp = none → s.sendWords.li.outUp = none) ∧ (s.li.outDown = none → s.sendWords.li.outDown = none)
      ∧ (∀ x, s.li.outUp = some x → s.sendWords.li.outUp
          = if (frameWords x.frame).length ≤ x.sent + 1 then none else some { frame := x.frame, sent := x.sent + 1 })
      ∧ (∀ x, s.li.outDown = some x → s.sendWords.li.outDown
          = if (frameWords x.frame).length ≤ x.sent + 1 then none else some { frame := x.frame, sent := x.sent + 1 }) := by
  have hup : s.sendWords.li.outUp = advance s.li.outUp := rfl
  have hdown : s.sendWords.li.outDown = advance s.li.outDown := rfl
  rw [State.sendWords_wordUp, State.sendWords_wordDown, hup, hdown]
  exact ⟨fun h => by rw [h]; rfl, fun h => by rw [h]; rfl, fun x h hx => h ▸ outputWord_some x hx,
    fun x h hx => h ▸ outputWord_some x hx, fun h => by rw [h]; rfl, fun h => by rw [h]; rfl,
    fun x h => by rw [h, advance_some], fun x h => by rw [h, advance_some]⟩

/-- Going on with a frame in hand by all its words ends it. -/
theorem observeFurther_all {s : State} {f : Frame} {rest : List Word}
    (h : s.inHand.intake = some { frame := f, rest := rest }) : s.observeFurther rest.length = s.settleIntake := by
  rw [State.observeFurther_some _ _ _ h, State.settleIntake_some _ _ h, State.handleNext_end _ _ _ (Nat.le_refl _)]

/-- Settles O2: the divisions of R146 by the cases of `clockCycle`. -/
theorem emptyQueueRunsOneReferenceCycle : Obligations.EmptyQueueRunsOneReferenceCycle := by
  refine ⟨fun s hidle => ?_, fun s => ?_⟩
  · rw [step_of_idle hidle]
    have haside := Aside.sendWords s
    have hparam : s.settleIntake.sendWords.paramNat .tickCode = s.paramNat .tickCode := by
      rw [State.paramNat, State.param, haside.rh]
      rfl
    refine ⟨fun hheld => by rw [State.clockCycle, if_pos hheld], fun hheld hclock => by rw [clockCycle_absent hheld hclock],
      fun hheld hclock hpre => by rw [clockCycle_counts hheld hclock hpre], fun hheld hclock hpre hdiv => ?_,
      fun hheld hclock hpre hdiv => ?_⟩
    · rw [clockCycle_millisecond hheld hclock hpre, millisecond_counts (by rw [haside.tg, hparam]; exact hdiv), haside.tg]
    · obtain ⟨hbs, htick, htg, hrh, hcs, hpins, hpending⟩ := millisecond_produces
        (u := s.settleIntake.sendWords) (by rw [State.held, haside.pins]; exact hheld) (by rw [haside.pins, hclock])
        (by rw [haside.tg, hparam]; exact hdiv)
      rw [clockCycle_millisecond hheld hclock hpre]
      exact ⟨_, rfl, by rw [htg, haside.tg], hbs, htick, hrh.trans haside.rh, hcs.trans haside.cs, hpins.trans haside.pins,
        (hpending.trans haside.pending).trans hidle⟩
  · obtain ⟨h1, h2, h3, h4, h5, h6, h7, h8⟩ := sendWords_laws s
    refine ⟨h1, h2, h3, h4, h5, h6, h7, h8, rfl, State.settleIntake_none s, fun f rest hheld hintake => ?_⟩
    rw [← observeFurther_all hintake]
    exact congrArg _ (if_neg (by simp [hheld]))

/-! ### A tick every period (R146) -/

/-- An idle, running part whose prescaler and divider have counted `n` cycles, under a tick counter and a cause record. -/
structure Counted (n counter : Nat) (rh : RequestHandler) (s : State) : Prop where
  pending : s.pending = []
  held : s.held = false
  clock : s.pins.refclkAbsent = false
  rh : s.rh = rh
  prescaler : s.tg.prescaler < 19200
  cycles : s.tg.prescaler + 19200 * s.tg.divider = n
  counter : s.tg.counter = counter

/-- The cycles from a restarted timing to its tick. -/
def period (rh : RequestHandler) : Nat := 19200 * 2 ^ (rh.params.get ParamId.tickCode.index).toNat

theorem Counted.counts_on {n counter : Nat} {rh : RequestHandler} {s : State} (h : Counted n counter rh s) (hn : n + 1 < period rh) :
    ∃ t, step s = .next t ∧ Counted (n + 1) counter rh t := by
  obtain ⟨hidle, hheld, hclock, rfl, hpre, hcycles, hcounter⟩ := h
  have haside := Aside.sendWords s
  have hheld' : s.settleIntake.sendWords.held = false := by rw [State.held, haside.pins]; exact hheld
  have hcounted {x : TickGenerator} (hx : x.prescaler < 19200) (hsum : x.prescaler + 19200 * x.divider = n + 1)
      (hxc : x.counter = s.tg.counter) : Counted (n + 1) counter s.rh (s.settleIntake.sendWords.withTg x) :=
    ⟨haside.pending.trans hidle, hheld', by rw [State.withTg_pins, haside.pins, hclock], haside.rh, hx, hsum,
      hxc.trans hcounter⟩
  rw [step_of_idle hidle]
  rcases Nat.lt_or_ge (s.tg.prescaler + 1) 19200 with hlow | hfull
  · exact ⟨_, congrArg _ (clockCycle_counts hheld hclock hlow), hcounted hlow (by simp only; omega) rfl⟩
  · have hdiv : s.tg.divider + 1 < 2 ^ s.paramNat .tickCode := by
      have hlt : 19200 * (s.tg.divider + 1) < 19200 * 2 ^ s.paramNat .tickCode := by
        refine lt_of_eq_of_lt ?_ hn
        omega
      omega
    have hparam : s.settleIntake.sendWords.paramNat .tickCode = s.paramNat .tickCode := by
      rw [State.paramNat, State.param, haside.rh]
      rfl
    have hcount := millisecond_counts (u := s.settleIntake.sendWords) (by rw [haside.tg, hparam]; exact hdiv)
    refine ⟨_, congrArg _ ((clockCycle_millisecond hheld hclock hfull).trans hcount), ?_⟩
    rw [haside.tg]
    exact hcounted (by simp) (by simp only; omega) rfl

/-- The step after the last counted cycle of a period produces the tick. -/
theorem Counted.produces {n counter : Nat} {rh : RequestHandler} {s : State} (h : Counted n counter rh s) (hn : n + 1 = period rh) :
    ∃ t, step s = .next t ∧ t.tg = { prescaler := 0, divider := 0, counter := (counter + 1) % 16777216 } := by
  obtain ⟨hidle, hheld, hclock, rfl, hpre, hcycles, hcounter⟩ := h
  have haside := Aside.sendWords s
  have hparam : s.settleIntake.sendWords.paramNat .tickCode = s.paramNat .tickCode := by
    rw [State.paramNat, State.param, haside.rh]
    rfl
  have hperiod : n + 1 = 19200 * 2 ^ s.paramNat .tickCode := hn
  obtain ⟨-, -, htg, -⟩ := millisecond_produces (u := s.settleIntake.sendWords)
    (by rw [State.held, haside.pins]; exact hheld) (by rw [haside.pins, hclock]) (by rw [haside.tg, hparam]; omega)
  rw [haside.tg, hcounter] at htg
  exact ⟨_, (step_of_idle hidle).trans (congrArg _ (clockCycle_millisecond hheld hclock (by omega))), htg⟩

/-- One step more, taken last. -/
theorem steps_succ {n : Nat} {s t : State} {o : Host.Outcome State Fault Refusal} (h : steps n s = .next t) (ht : step t = o) :
    steps (n + 1) s = o := by
  induction n generalizing s with
  | zero =>
    cases h
    rw [steps, ht]
    cases o <;> rfl
  | succ n ih =>
    rw [steps] at h ⊢
    cases hs : step s with
    | next u =>
      rw [hs] at h
      exact ih h
    | fault f => simp [hs] at h
    | refused r => simp [hs] at h

theorem Counted.after_steps {counter : Nat} {rh : RequestHandler} {s : State} (h : Counted 0 counter rh s) (k : Nat)
    (hk : k < period rh) : ∃ t, steps k s = .next t ∧ Counted k counter rh t := by
  induction k with
  | zero => exact ⟨s, rfl, h⟩
  | succ k ih =>
    obtain ⟨t, ht, hcounted⟩ := ih (by omega)
    obtain ⟨u, hu, hcounted'⟩ := hcounted.counts_on hk
    exact ⟨u, steps_succ ht hu, hcounted'⟩

/-- Settles O3: the prescaler and the divider count the cycles, and the last one of the period produces. -/
theorem ticksComeEveryPeriod : Obligations.TicksComeEveryPeriod := by
  intro s hidle hheld hclock hpre hdiv
  have hstart : Counted 0 s.tg.counter s.rh s := ⟨hidle, hheld, hclock, rfl, by omega, by omega, rfl⟩
  refine ⟨fun n hn => ?_, ?_⟩
  · obtain ⟨t, ht, hcounted⟩ := hstart.after_steps n hn
    exact ⟨t, ht, hcounted.counter⟩
  · have hpos : 0 < period s.rh := Nat.mul_pos (by decide) (Nat.two_pow_pos _)
    obtain ⟨n, hn⟩ : ∃ n, period s.rh = n + 1 := ⟨_, (Nat.succ_pred_eq_of_pos hpos).symm⟩
    obtain ⟨t, ht, hcounted⟩ := hstart.after_steps n (by omega)
    obtain ⟨u, hu, htg⟩ := hcounted.produces hn.symm
    exact ⟨u, (congrArg (steps · s) hn).trans (steps_succ ht hu), htg⟩

end Sys2Proof.Safety
end

section
/-! PROOFS. Frames and words: how a frame is written and read (R165, R171), how a request is served whatever its row
(R167, R173), and the rows of the links (R166 to R170). -/

namespace Sys2Proof.Machine

/-! ### Fields of a packed word (R171) -/

theorem Word.toNat_ofNatural {n : Nat} (h : n < 65536) : (Word.ofNatural n).toNat = n := by
  simp only [Word.ofNatural, BitVec.toNat_ofNat]
  omega

theorem bits_ofNatural {n : Nat} (h : n < 65536) (lo len : Nat) : bits (Word.ofNatural n) lo len = n / 2 ^ lo % 2 ^ len := by
  rw [bits, Word.toNat_ofNatural h]

theorem bit_ofNatural {n : Nat} (h : n < 65536) (k : Nat) : bit (Word.ofNatural n) k = decide (n / 2 ^ k % 2 = 1) := by
  rw [bit, Word.toNat_ofNatural h, Nat.testBit_eq_decide_div_mod_eq]

theorem flagBit_le (b : Bool) : flagBit b ≤ 1 := by
  cases b <;> decide

theorem flagBit_eq_one_iff (b : Bool) : flagBit b = 1 ↔ b = true := by
  cases b <;> decide

/-- A flag read back from its place in a packed word. -/
theorem decide_flagBit {n : Nat} {b : Bool} (h : n = flagBit b) : decide (n = 1) = b := by
  rw [h]
  cases b <;> rfl

/-! ### Check words (R165) -/

theorem endAroundAdd_not (a : Word) : endAroundAdd a (~~~ a) = 0xFFFF := by
  have ha : a.toNat < 65536 := a.isLt
  have hsum : a.toNat + (~~~ a).toNat = 65535 := by
    rw [BitVec.toNat_not]
    omega
  rw [endAroundAdd, if_pos (by omega), hsum]
  rfl

/-- The check word of a written frame is good: it complements the sum of the words before it (R165). -/
theorem checkGood_madeFrame (kind tag : BitVec 4) (payload : List Word) : checkGood (madeFrame kind tag payload) = true := by
  have hsum : endAroundSum (frameWords (madeFrame kind tag payload))
      = endAroundAdd (endAroundSum (headerWord kind tag payload :: payload)) (checkWord kind tag payload) := by
    rw [frameWords, endAroundSum, List.foldl_append]
    rfl
  rw [checkGood, hsum, checkWord, endAroundAdd_not]
  rfl

/-! ### Frames in words (section 10.1) -/

theorem headerWord_lt (kind tag : BitVec 4) (payload : List Word) :
    kind.toNat * 4096 + payload.length % 32 * 128 + tag.toNat * 8 < 65536 := by
  have hkind := kind.isLt
  have htag := tag.isLt
  omega

theorem bits_headerWord (kind tag : BitVec 4) {payload : List Word} (h : payload.length ≤ 31) :
    bits (headerWord kind tag payload) 12 4 = kind.toNat ∧ bits (headerWord kind tag payload) 7 5 = payload.length
      ∧ bits (headerWord kind tag payload) 3 4 = tag.toNat ∧ bits (headerWord kind tag payload) 0 3 = 0 := by
  have hkind := kind.isLt
  have htag := tag.isLt
  simp only [headerWord, bits_ofNatural (headerWord_lt kind tag payload)]
  simp only [Nat.reducePow] at hkind htag ⊢
  omega

theorem headerLength_frameWords {f : Frame} (h : f.payload.length ≤ 31) (ws : List Word) :
    headerLength (headerWord f.kind f.tag f.payload :: ws) = f.payload.length := by
  obtain ⟨-, hlen, -⟩ := bits_headerWord f.kind f.tag h
  exact hlen

theorem frameOfWords_frameWords {f : Frame} (h : f.payload.length ≤ 31) : frameOfWords (frameWords f) = f := by
  obtain ⟨kind, tag, payload, check⟩ := f
  obtain ⟨hkind, -, htag, -⟩ := bits_headerWord kind tag h
  simp only [frameOfWords, frameWords, List.cons_append, List.getD_cons_zero, hkind, htag, List.drop_succ_cons, List.drop_zero,
    List.dropLast_concat, BitVec.ofNat_toNat, BitVec.setWidth_eq]
  congr
  rw [← List.cons_append, List.getLastD_concat]

/-- The words of a status word (R171). -/
theorem bits_statusWord {code : Nat} (h : code ≤ 63) (st : Status) (more : Bool) :
    bits (statusWord code st more) 10 6 = code ∧ bits (statusWord code st more) 6 4 = st.code
      ∧ bits (statusWord code st more) 1 5 = 0 ∧ bit (statusWord code st more) 0 = more := by
  have hst := st.code_le
  have hflag := flagBit_le more
  have hlt : code * 1024 + st.code * 64 + flagBit more < 65536 := by omega
  simp only [statusWord, bits_ofNatural hlt, bit_ofNatural hlt]
  simp only [Nat.reducePow]
  refine ⟨by omega, by omega, by omega, decide_flagBit (by omega)⟩

/-! ### Serving a request by its payload (R167, R173) -/

/-- The request word gives its code and its low bits back. -/
theorem bits_requestWord {code : Nat} (h : code ≤ 63) (low : BitVec 10) :
    bits (Word.ofNatural (code * 1024 + low.toNat)) 10 6 = code
      ∧ BitVec.ofNat 10 (bits (Word.ofNatural (code * 1024 + low.toNat)) 0 10) = low := by
  have hlow := low.isLt
  have hlt : code * 1024 + low.toNat < 65536 := by omega
  simp only [bits_ofNatural hlt]
  constructor
  · omega
  · rw [show (code * 1024 + low.toNat) / 2 ^ 0 % 2 ^ 10 = low.toNat by omega, BitVec.ofNat_toNat, BitVec.setWidth_eq]

theorem State.serveRequest_of_1to11 {s t : State} {tag : BitVec 4} {code : Nat} {low : BitVec 10} {args : List Word}
    (hcode : code ≤ 63) (h : s.serve1to11 tag low args code = some t) :
    s.serveRequest tag (requestPayload code low args) = t := by
  obtain ⟨hbits, hlow⟩ := bits_requestWord hcode low
  simp only [State.serveRequest, requestPayload, hbits, hlow, h]

theorem State.serveRequest_of_12to21 {s t : State} {tag : BitVec 4} {code : Nat} {low : BitVec 10} {args : List Word}
    (hcode : code ≤ 63) (hnone : s.serve1to11 tag low args code = none) (h : s.serve12to21 tag low args code = some t) :
    s.serveRequest tag (requestPayload code low args) = t := by
  obtain ⟨hbits, hlow⟩ := bits_requestWord hcode low
  simp only [State.serveRequest, requestPayload, hbits, hlow, hnone, h]

/-- The four parameters with rows of their own are served by PARAM WRITE's effect under their ids (R177). -/
theorem paramWriteEffect_paramArgs (args : List Word) :
    paramWriteEffect (paramArgs .tickCode args) = tickCodeEffect args
      ∧ paramWriteEffect (paramArgs .boardFallback args) = boardFallbackEffect args
      ∧ paramWriteEffect (paramArgs .noticeEnable args) = noticeEnableEffect args
      ∧ paramWriteEffect (paramArgs .noticeLatch args) = noticeLatchEffect args :=
  ⟨rfl, rfl, rfl, rfl⟩

/-- A good request frame is served by its payload (R166). -/
theorem State.handleDown_requestFrame (tag : BitVec 4) (payload : List Word) (s : State) :
    s.handleDown (requestFrame tag payload) = s.serveRequest tag payload := by
  rw [State.handleDown, if_neg (show ¬ (requestFrame tag payload).kind = kindSlotOrder from (by decide : ¬ kindRequest = kindSlotOrder)),
    if_pos (show (requestFrame tag payload).kind = kindRequest from rfl), State.takeRequest,
    if_pos (show checkGood (requestFrame tag payload) = true from checkGood_madeFrame _ _ _)]
  rfl

/-- At a full insert queue every request is dropped, whatever its words (R167). -/
theorem State.serveRequest_full {s : State} (h : 4 ≤ s.li.insert.length) (tag : BitVec 4) (payload : List Word) :
    s.serveRequest tag payload = s.linkFault .droppedRequest := by
  have hunknown (code : Nat) (st : Status) : s.answerUnknown tag code st = s.linkFault .droppedRequest := if_pos h
  have hrequest (code : Nat) (low : BitVec 10) (args : List Word) (effect : State → State × Reply) :
      s.request tag code low args effect = s.linkFault .droppedRequest := s.request_dropped tag code low args effect h
  have hsoft (low : BitVec 10) (args : List Word) : s.softResetRequest tag low args = s.linkFault .droppedRequest := if_pos h
  unfold State.serveRequest
  split
  · exact hunknown _ _
  · split
    · rename_i hserve
      unfold State.serve1to11 at hserve
      split at hserve <;> cases hserve <;> exact hrequest _ _ _ _
    · split
      · rename_i hserve
        unfold State.serve12to21 at hserve
        split at hserve <;> cases hserve
        case h_10 => exact hsoft _ _
        all_goals exact hrequest _ _ _ _
      · exact hunknown _ _

/-- A request of unsound structure changes no state and is answered FORMAT (R173). -/
theorem State.request_unsound {s : State} (hplace : s.li.insert.length ≤ 3) (tag : BitVec 4) {code : Nat} {low : BitVec 10}
    {args : List Word} (h : formGood code low = false ∨ lengthGood code args = false) (effect : State → State × Reply) :
    s.request tag code low args effect = s.respond tag code (refuse .format) := by
  rw [State.request, if_neg (by omega), if_pos h]

end Sys2Proof.Machine

namespace Sys2Proof.Safety

open Sys2Proof.Machine

/-- Settles O14. -/
theorem framesAreWrittenAndReadWhole : Obligations.FramesAreWrittenAndReadWhole := by
  refine ⟨checkGood_madeFrame, fun f h => ⟨frameOfWords_frameWords h, headerLength_frameWords h _, ?_⟩, fun tag classes payload => ?_,
    fun code st more h => bits_statusWord h st more⟩
  · obtain ⟨-, -, -, hreserved⟩ := bits_headerWord f.kind f.tag h
    exact hreserved
  · refine ⟨rfl, rfl, ?_, rfl⟩
    rw [← BitVec.ofNat_toNat]
    rfl

/-! ### Rows that are requests -/

theorem requestOf_code {i : Instr} {code : Nat} {r : Request} (h : requestOf i = some (code, r)) : 1 ≤ code ∧ code ≤ 21 := by
  cases i <;> cases h <;> decide

/-- Every request row is served by its payload: the row's effect is that of its code and its words. -/
theorem exec_requestOf {i : Instr} {code : Nat} {r : Request} (h : requestOf i = some (code, r)) (s : State) :
    exec i s = .next (s.onFrame .downstream (rowFrame code r)
      (State.serveRequest r.tag (requestPayload code r.low r.args))) := by
  have hlow (handle : State → State) {c : Nat} {q : Request} (hcode : c ≤ 63)
      (hserve : ∀ u : State, u.serve1to11 q.tag q.low q.args c = some (handle u)) :
      (Host.Outcome.next (s.onFrame .downstream (rowFrame c q) handle) : Host.Outcome State Fault Refusal)
        = .next (s.onFrame .downstream (rowFrame c q) (State.serveRequest q.tag (requestPayload c q.low q.args))) :=
    congrArg (fun handle => Host.Outcome.next (s.onFrame .downstream (rowFrame c q) handle))
      (funext fun u => (State.serveRequest_of_1to11 hcode (hserve u)).symm)
  have hhigh (handle : State → State) {c : Nat} {q : Request} (hcode : c ≤ 63)
      (hnone : ∀ u : State, u.serve1to11 q.tag q.low q.args c = none)
      (hserve : ∀ u : State, u.serve12to21 q.tag q.low q.args c = some (handle u)) :
      (Host.Outcome.next (s.onFrame .downstream (rowFrame c q) handle) : Host.Outcome State Fault Refusal)
        = .next (s.onFrame .downstream (rowFrame c q) (State.serveRequest q.tag (requestPayload c q.low q.args))) :=
    congrArg (fun handle => Host.Outcome.next (s.onFrame .downstream (rowFrame c q) handle))
      (funext fun u => (State.serveRequest_of_12to21 hcode (hnone u) (hserve u)).symm)
  cases i with
  | identify | modeSet | paramWrite | paramRead | chainWrite | ruleWrite | headerWrite | copy | flip | flipCancel | tableRead
  | tickCodeWrite | boardFallbackWrite | noticeEnableWrite | noticeLatchWrite =>
    cases h
    exact hlow _ (by decide) fun _ => rfl
  | curveOpen | curveData | curveRead | mapWrite | mapRead | stateRead | logRead | logFlush | noticeClear | softReset =>
    cases h
    exact hhigh _ (by decide) (fun _ => rfl) fun _ => rfl
  | _ => cases h

theorem onFrame_down {f : Frame} {s : State} (h : arrivesDown f s) (handle : State → State) :
    s.onFrame .downstream f handle = handle (heard s) := State.onFrame_taken _ _ _ _ (arrivesDown_receives h)

theorem onFrame_up {f : Frame} {s : State} (h : arrivesUp f s) (handle : State → State) :
    s.onFrame .upstream f handle = handle (s.setRx .upstream .seeking) := State.onFrame_taken _ _ _ _ (arrivesUp_receives h)

/-! ### One word received (R165) -/

/-- Settles O17: the cases of `receiveWord`. -/
theorem oneWordIsReceived : Obligations.OneWordIsReceived := by
  intro st w s
  have hexec : exec (.headerWordReceived st w) s = .next (s.receiveWord st w) := rfl
  rw [hexec]
  refine ⟨fun hheld => congrArg _ (if_pos hheld), fun hheld hrx hbits => ?_, fun hheld hrx hbits => ?_,
    fun ws hheld hrx hlen => ?_, fun ws hheld hrx hlen => ?_⟩
  · simp [State.receiveWord, hheld, hrx, hbits]
  · simp [State.receiveWord, hheld, hrx, hbits, State.joinWord]
  · simp only [State.receiveWord, hheld, hrx, State.joinWord, if_pos hlen]
    rfl
  · simp only [State.receiveWord, hheld, hrx, State.joinWord, if_neg (Nat.not_lt.2 hlen)]
    rfl

/-! ### A frame word by word (R165) -/

theorem setRx_rx (s : State) (st : Stream) (x : RxState) : (s.setRx st x).li.rx st = x := by
  cases st <;> rfl

theorem setRx_setRx (s : State) (st : Stream) (x y : RxState) : (s.setRx st x).setRx st y = s.setRx st y := by
  cases st <;> rfl

theorem setRx_held (s : State) (st : Stream) (x : RxState) : (s.setRx st x).held = s.held := by
  cases st <;> rfl

/-- A word that does not complete the frame joins the words received. -/
theorem exec_word_joins {st : Stream} {s : State} (hheld : s.held = false) {ws : List Word} (hrx : s.li.rx st = .inFrame ws)
    {w : Word} (h : (ws ++ [w]).length < headerLength (ws ++ [w]) + 2) :
    exec (.headerWordReceived st w) s = .next (s.setRx st (.inFrame (ws ++ [w]))) := by
  obtain ⟨-, -, -, hjoin, -⟩ := oneWordIsReceived st w s
  exact hjoin ws hheld hrx h

/-- The check word completes the frame, which is handled. -/
theorem exec_word_completes {st : Stream} {s : State} (hheld : s.held = false) {ws : List Word}
    (hrx : s.li.rx st = .inFrame ws) {w : Word} (h : headerLength (ws ++ [w]) + 2 ≤ (ws ++ [w]).length) :
    exec (.headerWordReceived st w) s = .next ((s.setRx st .seeking).handleFrame st (frameOfWords (ws ++ [w]))) := by
  obtain ⟨-, -, -, -, hwhole⟩ := oneWordIsReceived st w s
  exact hwhole ws hheld hrx h

/-- The words after the header, received one by one by a receiver that holds the words before them. -/
theorem execAll_payload {st : Stream} {f : Frame} (hlen : f.payload.length ≤ 31) (todo : List Word) {s : State}
    (hheld : s.held = false) {before : List Word} (hsplit : f.payload = before ++ todo)
    (hrx : s.li.rx st = .inFrame (headerWord f.kind f.tag f.payload :: before)) :
    execAll ((todo ++ [f.check]).map (Instr.headerWordReceived st)) s
      = .next ((s.setRx st .seeking).handleFrame st f) := by
  induction todo generalizing s before with
  | nil =>
    rw [List.append_nil] at hsplit
    have hwords : headerWord f.kind f.tag f.payload :: before ++ [f.check] = frameWords f := by rw [frameWords, hsplit]
    have hdone : headerLength (headerWord f.kind f.tag f.payload :: before ++ [f.check]) + 2
        ≤ (headerWord f.kind f.tag f.payload :: before ++ [f.check]).length := by
      rw [List.cons_append, headerLength_frameWords hlen, hsplit]
      simp
    simp only [List.nil_append, List.map_cons, List.map_nil, execAll, exec_word_completes hheld hrx hdone]
    rw [hwords, frameOfWords_frameWords hlen]
  | cons w todo ih =>
    have hjoin : (headerWord f.kind f.tag f.payload :: before ++ [w]).length
        < headerLength (headerWord f.kind f.tag f.payload :: before ++ [w]) + 2 := by
      rw [List.cons_append, headerLength_frameWords hlen, hsplit]
      simp
    have hsplit' : f.payload = (before ++ [w]) ++ todo := by rw [hsplit, List.append_assoc, List.singleton_append]
    simp only [List.cons_append, List.map_cons, execAll, exec_word_joins hheld hrx hjoin]
    rw [ih (by rw [setRx_held, hheld]) hsplit' (setRx_rx _ _ _), setRx_setRx]

/-- A frame's words, received one by one by a receiver in SEEKING, have the effect of the frame. -/
theorem execAll_frameWords {st : Stream} {f : Frame} {s : State} (hlen : f.payload.length ≤ 31) (hheld : s.held = false)
    (hrx : s.li.rx st = .seeking) :
    execAll ((frameWords f).map (Instr.headerWordReceived st)) s = .next ((s.setRx st .seeking).handleFrame st f) := by
  obtain ⟨-, -, -, hreserved⟩ := bits_headerWord f.kind f.tag hlen
  obtain ⟨-, -, hheader, -⟩ := oneWordIsReceived st (headerWord f.kind f.tag f.payload) s
  simp only [frameWords, List.cons_append, List.map_cons, execAll, hheader hheld hrx hreserved]
  rw [execAll_payload hlen f.payload (by rw [setRx_held, hheld]) (List.nil_append _).symm (setRx_rx _ _ _), setRx_setRx]

theorem takeTelemetry_whole {f : Frame} {now : Nat} (h : f.payload.length ≤ now) (s : State) :
    s.takeTelemetry f now = s.takeTelemetry f f.payload.length := by
  simp only [State.takeTelemetry, State.observe, State.handleNext, if_pos h, Nat.le_refl, if_true]

/-- A row that is a whole frame receives and handles it. -/
theorem exec_frameOf {i : Instr} {st : Stream} {f : Frame} (h : frameOf i = some (st, f)) (s : State) :
    exec i s = .next (s.onFrame st f (State.handleFrame st f)) := by
  have hrow {code : Nat} {r : Request} (hr : requestOf i = some (code, r)) :
      exec i s = .next (s.onFrame .downstream (rowFrame code r) (State.handleFrame .downstream (rowFrame code r))) := by
    rw [exec_requestOf hr]
    exact congrArg (fun handle => Host.Outcome.next (s.onFrame .downstream (rowFrame code r) handle))
      (funext fun u => (State.handleDown_requestFrame _ _ u).symm)
  have hrequest (tag : BitVec 4) (payload : List Word) :
      (Host.Outcome.next (s.onFrame .downstream (requestFrame tag payload) (State.serveRequest tag payload))
        : Host.Outcome State Fault Refusal)
      = .next (s.onFrame .downstream (requestFrame tag payload) (State.handleFrame .downstream (requestFrame tag payload))) :=
    congrArg (fun handle => Host.Outcome.next (s.onFrame .downstream (requestFrame tag payload) handle))
      (funext fun u => (State.handleDown_requestFrame _ _ u).symm)
  cases i with
  | slotOrder | upstreamTransitFrame | downstreamTransitFrame | requestDiscarded =>
    cases h
    rfl
  | requestDropped tag payload | unknownRequest tag payload =>
    cases h
    exact hrequest tag payload
  | telemetry p now =>
    cases p with
    | further => cases h
    | frame b =>
      simp only [frameOf] at h
      split at h
      · rename_i hnow
        cases h
        exact congrArg (fun handle => Host.Outcome.next (s.onFrame .upstream (bodyFrame kindTelemetry b) handle))
          (funext fun u => takeTelemetry_whole hnow u)
      · cases h
  | tick | slewExpiry | streamQuiet | observationStale | windowRotation | recovery | parking | parkRelease | upstreamOutputFrame
  | downstreamOutputFrame | powerOnReset | supplyOutOfRange | pinResetAssert | pinResetRelease | refclkStop | refclkResume
  | headerWordReceived => cases h
  | _ =>
    cases h
    exact hrow rfl

/-- Settles O16. -/
theorem frameRowsAreTheirWords : Obligations.FrameRowsAreTheirWords := by
  intro i st f s hframe hlen hheld hrx
  have hreceives : s.receives st f = true := by
    simp [State.receives, hheld, hlen, hrx, RxState.words]
  rw [exec_frameOf hframe, State.onFrame_taken _ _ _ _ hreceives, execAll_frameWords hlen hheld hrx]

/-! ### Transit frames and faulty frames (R166, R168) -/

/-- Settles O18. -/
theorem transitFramesPassAsReceived : Obligations.TransitFramesPassAsReceived := by
  intro f s
  have hup (harrives : arrivesUp f s) (hkind : f.kind ≠ kindTelemetry) (hintake : s.inHand.intake = none) :
      exec (.upstreamTransitFrame f) s = .next ((s.setRx .upstream .seeking).offerTransit f) := by
    refine congrArg _ ((onFrame_up harrives _).trans ?_)
    have hnone : (s.setRx .upstream .seeking).inHand.intake = none := hintake
    rw [State.handleUp, if_neg hkind, State.takeUpstream, State.settleIntake_none _ hnone]
  refine ⟨fun harrives hslot hrequest => ?_, fun harrives hkind hintake hroom => ?_, fun harrives hkind hintake hfull => ?_⟩
  · refine congrArg _ ((onFrame_down harrives _).trans ?_)
    rw [State.handleDown, if_neg hslot, if_neg hrequest]
    rfl
  · rw [hup harrives hkind hintake, State.offerTransit, if_pos (by exact hroom)]
    rfl
  · refine ⟨_, hup harrives hkind hintake, ?_⟩
    rw [State.offerTransit, if_neg (by exact Nat.not_lt.2 hfull)]
    exact ⟨rfl, fun hmode => newest_record_raise (by exact hmode) _ _, raised_linkFault_link _ _, logsOnly_linkFault _ _⟩

/-- A LINK record of a frame just queued or heard: it is the newest of a log in OVERWRITE, and LINK is raised (R166). -/
theorem linkFault_laws (s : State) (e : LinkError) :
    (s.param .logMode = 1 → newest (s.linkFault e) = some (.link e s.stamp)) ∧ raised .link (s.linkFault e)
      ∧ logsOnly s (s.linkFault e) :=
  ⟨fun h => newest_record_raise h _ _, raised_linkFault_link e s, logsOnly_linkFault s e⟩

/-- Settles O19: the check is tested before the length. -/
theorem faultyOrdersPassUngoverned : Obligations.FaultyOrdersPassUngoverned := by
  intro b s harrives
  have hexec : exec (.slotOrder b) s = .next ((heard s).takeSlotOrder (bodyFrame kindSlotOrder b)) :=
    congrArg _ (onFrame_down harrives _)
  have hfault (e : LinkError) := linkFault_laws ((heard s).queueDown (bodyFrame kindSlotOrder b)) e
  have hdown (e : LinkError) : (((heard s).queueDown (bodyFrame kindSlotOrder b)).linkFault e).li.downPath
      = s.li.downPath ++ [bodyFrame kindSlotOrder b] := by
    simp [State.queueDown, heard, State.setRx]
  refine ⟨fun hcheck => ?_, fun hcheck hlen => ?_⟩
  · refine ⟨_, hexec, ?_⟩
    rw [State.takeSlotOrder, if_pos hcheck]
    exact ⟨rfl, hdown _, hfault .check⟩
  · have hbad : orderLengthGood (bodyFrame kindSlotOrder b).payload.length = false := by
      rw [Bool.eq_false_iff]
      intro hgood
      obtain ⟨hodd, hmax⟩ := (orderLengthGood_iff _).1 hgood
      have hpayload : (bodyFrame kindSlotOrder b).payload = b.payload := rfl
      rw [hpayload] at hodd hmax
      exact hlen (b.payload.length / 2) (by omega) (by omega)
    refine ⟨_, hexec, ?_⟩
    rw [State.takeSlotOrder, if_neg (by simp [hcheck]), if_pos hbad]
    exact ⟨rfl, hdown _, hfault .malformed⟩

/-! ### Requests without effect (R166, R167, R173) -/

/-- How a step of NU may lengthen the insert queue: by one NOTICE at most, and none where one waits or 3 frames stand. -/
def NoticeGrowth (q q' : List GovFrame) : Prop :=
  (q'.length = q.length ∧ q'.any GovFrame.isNotice = q.any GovFrame.isNotice)
    ∨ (q.any GovFrame.isNotice = false ∧ q.length ≤ 2 ∧ q'.length = q.length + 1 ∧ q'.any GovFrame.isNotice = true)

theorem NoticeGrowth.refl (q : List GovFrame) : NoticeGrowth q q := .inl ⟨rfl, rfl⟩

theorem NoticeGrowth.of_step {q q' : List GovFrame} (h : NoticeStep q q') : NoticeGrowth q q' := by
  obtain rfl | ⟨d, rfl⟩ | ⟨d, hnone, hlen, rfl⟩ := h
  · exact .refl _
  · refine .inl ⟨List.length_map .., ?_⟩
    rw [List.any_map]
    exact congrArg (List.any q) (funext (mergeInto_isNotice d))
  · exact .inr ⟨hnone, hlen, by simp, by simp⟩

theorem NoticeGrowth.trans {q q' q'' : List GovFrame} (h : NoticeGrowth q q') (h' : NoticeGrowth q' q'') : NoticeGrowth q q'' := by
  obtain ⟨hlen, hany⟩ | ⟨hnone, hlen, hone, hsome⟩ := h
  · rwa [NoticeGrowth, hlen, hany] at h'
  · obtain ⟨hlen', hany'⟩ | ⟨hnone', -⟩ := h'
    · exact .inr ⟨hnone, hlen, by omega, hany'.trans hsome⟩
    · rw [hsome] at hnone'
      cases hnone'

theorem NoticeGrowth.record (s : State) (r : Record) : NoticeGrowth s.li.insert (s.record r).li.insert := by
  have hraise (u : State) (c : NoticeClass) : NoticeGrowth u.li.insert (u.raise c).li.insert := .of_step (State.raise_insert u c)
  have hloss (p : Prop) [Decidable p] (x : ObservationLog) :
      NoticeGrowth s.li.insert (if p then (s.withOl x).raise .loss else s.withOl x).li.insert := by
    split
    · exact hraise (s.withOl x) .loss
    · exact .refl _
  simp only [State.record]
  split
  · exact (hloss _ _).trans (hraise _ _)
  · exact hloss _ _

theorem NoticeGrowth.linkFault (s : State) (e : LinkError) : NoticeGrowth s.li.insert (s.linkFault e).li.insert :=
  (NoticeGrowth.record s _).trans (.of_step (State.raise_insert _ _))

theorem NoticeGrowth.length {q q' : List GovFrame} (h : NoticeGrowth q q') :
    q'.length ≤ q.length + 1 ∧ (4 ≤ q.length → q'.length = q.length) := by
  obtain ⟨hlen, -⟩ | ⟨-, hlen, hone, -⟩ := h <;> omega

/-- Settles O20. -/
theorem requestsWithoutAnAnswer : Obligations.RequestsWithoutAnAnswer := by
  refine ⟨fun b s harrives hcheck => ?_, fun tag payload s harrives hfull => ?_, fun i code r s hrow harrives hfull => ?_,
    fun e s => ?_⟩
  · refine congrArg _ ((onFrame_down harrives _).trans ?_)
    rw [State.takeRequest, if_neg (by simp [hcheck])]
  · exact congrArg _ ((onFrame_down harrives _).trans (State.serveRequest_full (s := heard s) hfull tag payload))
  · rw [exec_requestOf hrow]
    exact congrArg _ ((onFrame_down harrives _).trans (State.serveRequest_full (s := heard s) hfull _ _))
  · obtain ⟨hnewest, hraised, hlogs⟩ := linkFault_laws s e
    obtain ⟨hone, hfull⟩ := (NoticeGrowth.linkFault s e).length
    exact ⟨hlogs, hnewest, hraised, hone, hfull⟩

theorem serve_none_of_unknown {n : Nat} (h : n = 0 ∨ 21 < n) (s : State) (tag : BitVec 4) (low : BitVec 10) (args : List Word) :
    s.serve1to11 tag low args n = none ∧ s.serve12to21 tag low args n = none := by
  constructor
  · unfold State.serve1to11
    split
    case h_12 => rfl
    all_goals omega
  · unfold State.serve12to21
    split
    case h_11 => rfl
    all_goals omega

/-- Settles O21. -/
theorem unknownRequestsAreAnswered : Obligations.UnknownRequestsAreAnswered := by
  refine ⟨fun tag w args s harrives hplace hcode => ?_, fun tag s harrives hplace => ?_⟩
  · refine congrArg _ ((onFrame_down harrives _).trans ?_)
    obtain ⟨hlow, hhigh⟩ := serve_none_of_unknown hcode (heard s) tag (BitVec.ofNat 10 (bits w 0 10)) args
    simp only [State.serveRequest, hlow, hhigh]
    rw [State.answerUnknown, if_neg (by exact Nat.not_le.2 (Nat.lt_succ_of_le hplace)), refuse, heard_respond]
  · refine congrArg _ ((onFrame_down harrives _).trans ?_)
    rw [State.serveRequest, State.answerUnknown, if_neg (by exact Nat.not_le.2 (Nat.lt_succ_of_le hplace)), refuse, heard_respond]

/-! ### Requests of unsound structure (R173) -/

theorem formGood_iff (code : Nat) (low : BitVec 10) : formGood code low = true ↔ low.toNat % 256 = 0
    ∧ (low.toNat / 256 = 0 ∨ (low.toNat / 256 = 1 ∧ (code = 5 ∨ code = 6 ∨ code = 7))) := by
  simp only [formGood, Bool.and_eq_true, beq_iff_eq, decide_eq_true_eq]
  (repeat' split) <;> omega

/-- The payload lengths of the table of section 11.1. -/
theorem lengthGood_table (code : Nat) (args : List Word) :
    (code ∈ [1, 8, 10, 19, 21] → (lengthGood code args = true ↔ args.length + 1 = 1))
    ∧ (code ∈ [2, 4, 9, 14, 17, 18, 20] → (lengthGood code args = true ↔ args.length + 1 = 2))
    ∧ (lengthGood 16 args = true ↔ args.length + 1 = 3) ∧ (lengthGood 3 args = true ↔ args.length + 1 = 4)
    ∧ (code ∈ [11, 12] → (lengthGood code args = true ↔ args.length + 1 = 5))
    ∧ (lengthGood 7 args = true ↔ args.length + 1 = 6) ∧ (lengthGood 5 args = true ↔ args.length + 1 = 12)
    ∧ (lengthGood 6 args = true ↔ args.length + 1 = 14) ∧ (args.length + 1 ≤ 31 → lengthGood 13 args = true)
    ∧ (lengthGood 15 args = true ↔ 3 ≤ args.length + 1 ∧ args.length + 1 = 3 + (arg args 1).toNat) := by
  have hmany : lengthGood 15 args = true ↔ 3 ≤ args.length + 1 ∧ args.length + 1 = 3 + (arg args 1).toNat := by
    simp only [lengthGood, arg, Bool.and_eq_true, decide_eq_true_eq, beq_iff_eq]
    omega
  simp only [List.mem_cons, List.not_mem_nil, or_false]
  refine ⟨fun h => ?_, fun h => ?_, by simp [lengthGood], by simp [lengthGood], fun h => ?_, by simp [lengthGood],
    by simp [lengthGood], by simp [lengthGood], fun h => ?_, hmany⟩
  · rcases h with rfl | rfl | rfl | rfl | rfl <;> simp [lengthGood]
  · rcases h with rfl | rfl | rfl | rfl | rfl | rfl | rfl <;> simp [lengthGood]
  · rcases h with rfl | rfl <;> simp [lengthGood]
  · simp only [lengthGood, decide_eq_true_eq]
    omega

theorem State.serve1to11_unsound {s t : State} (hplace : s.li.insert.length ≤ 3) {tag : BitVec 4} {low : BitVec 10}
    {args : List Word} {code : Nat} (h : formGood code low = false ∨ lengthGood code args = false)
    (hserve : s.serve1to11 tag low args code = some t) : t = s.respond tag code (refuse .format) := by
  unfold State.serve1to11 at hserve
  split at hserve <;> cases hserve <;> exact State.request_unsound hplace _ h _

theorem State.serve12to21_unsound {s t : State} (hplace : s.li.insert.length ≤ 3) {tag : BitVec 4} {low : BitVec 10}
    {args : List Word} {code : Nat} (h : formGood code low = false ∨ lengthGood code args = false)
    (hserve : s.serve12to21 tag low args code = some t) : t = s.respond tag code (refuse .format) := by
  unfold State.serve12to21 at hserve
  split at hserve <;> cases hserve
  case h_10 => rw [State.softResetRequest, if_neg (by omega), if_pos h]
  all_goals exact State.request_unsound hplace _ h _

theorem serve_some_of_known {n : Nat} (h : 1 ≤ n ∧ n ≤ 21) (s : State) (tag : BitVec 4) (low : BitVec 10) (args : List Word) :
    (∃ t, s.serve1to11 tag low args n = some t)
      ∨ (s.serve1to11 tag low args n = none ∧ ∃ t, s.serve12to21 tag low args n = some t) := by
  obtain ⟨hlow, hhigh⟩ := h
  rcases Nat.lt_or_ge n 12 with hcode | hcode
  · obtain rfl | rfl | rfl | rfl | rfl | rfl | rfl | rfl | rfl | rfl | rfl : n = 1 ∨ n = 2 ∨ n = 3 ∨ n = 4 ∨ n = 5 ∨ n = 6
        ∨ n = 7 ∨ n = 8 ∨ n = 9 ∨ n = 10 ∨ n = 11 := by omega
    all_goals exact .inl ⟨_, rfl⟩
  · obtain rfl | rfl | rfl | rfl | rfl | rfl | rfl | rfl | rfl | rfl : n = 12 ∨ n = 13 ∨ n = 14 ∨ n = 15 ∨ n = 16 ∨ n = 17
        ∨ n = 18 ∨ n = 19 ∨ n = 20 ∨ n = 21 := by omega
    all_goals exact .inr ⟨rfl, _, rfl⟩

theorem serveRequest_unsound {s : State} (hplace : s.li.insert.length ≤ 3) {tag : BitVec 4} {low : BitVec 10}
    {args : List Word} {code : Nat} (hcode : 1 ≤ code ∧ code ≤ 21)
    (h : formGood code low = false ∨ lengthGood code args = false) :
    s.serveRequest tag (requestPayload code low args) = s.respond tag code (refuse .format) := by
  rcases serve_some_of_known hcode s tag low args with ⟨t, ht⟩ | ⟨hnone, t, ht⟩
  · rw [State.serveRequest_of_1to11 (by omega) ht, State.serve1to11_unsound hplace h ht]
  · rw [State.serveRequest_of_12to21 (by omega) hnone ht, State.serve12to21_unsound hplace h ht]

/-- Settles O22. -/
theorem unsoundRequestsAreAnsweredFormat : Obligations.UnsoundRequestsAreAnsweredFormat := by
  refine ⟨fun code low args => ⟨formGood_iff code low, lengthGood_table code args⟩,
    fun i code r s hrow harrives hplace hbad => ?_⟩
  have hunsound : formGood code r.low = false ∨ lengthGood code r.args = false := by
    refine Classical.byContradiction fun hgood => ?_
    simp only [not_or, Bool.not_eq_false] at hgood
    obtain ⟨hform, hlength⟩ := hgood
    obtain ⟨hreserved, hkind⟩ := (formGood_iff code r.low).1 hform
    obtain ⟨h1, h2, h3, h4, h5, h6, h7, h8, -, h10⟩ := lengthGood_table code r.args
    rcases hbad with hb | hb | hb | ⟨hb, hl⟩ | ⟨hb, hl⟩ | ⟨rfl, hl⟩ | ⟨rfl, hl⟩ | ⟨hb, hl⟩ | ⟨rfl, hl⟩ | ⟨rfl, hl⟩ | ⟨rfl, hl⟩
      | ⟨rfl, hl⟩
    · omega
    · omega
    · omega
    · exact hl ((h1 hb).1 hlength)
    · exact hl ((h2 hb).1 hlength)
    · exact hl (h3.1 hlength)
    · exact hl (h4.1 hlength)
    · exact hl ((h5 hb).1 hlength)
    · exact hl (h6.1 hlength)
    · exact hl (h7.1 hlength)
    · exact hl (h8.1 hlength)
    · have hmany := h10.1 hlength
      omega
  rw [exec_requestOf hrow]
  refine congrArg _ ((onFrame_down harrives _).trans ?_)
  rw [serveRequest_unsound (s := heard s) hplace (requestOf_code hrow) hunsound, refuse, heard_respond]

/-! ### The outputs (R166, R170) -/

theorem upstreamOutput_transit {s : State} {f : Frame} {fs : List Frame} (ht : s.li.transit = f :: fs)
    (hturn : s.li.insert = [] ∨ s.li.lastServed = .insert) : s.upstreamOutput = s.sendTransit f fs := by
  rcases hi : s.li.insert with _ | ⟨g, gs⟩
  · simp only [State.upstreamOutput, ht, hi]
  · have hserved : s.li.lastServed = .insert := hturn.resolve_left (by simp [hi])
    simp only [State.upstreamOutput, ht, hi, hserved]

theorem upstreamOutput_insert {s : State} {g : GovFrame} {gs : List GovFrame} (hi : s.li.insert = g :: gs)
    (hturn : s.li.transit = [] ∨ s.li.lastServed = .transit) : s.upstreamOutput = s.sendInsert g gs := by
  rcases ht : s.li.transit with _ | ⟨f, fs⟩
  · simp only [State.upstreamOutput, ht, hi]
  · have hserved : s.li.lastServed = .transit := hturn.resolve_left (by simp [ht])
    simp only [State.upstreamOutput, ht, hi, hserved]

/-- Settles O23: the cases of the arbiter. -/
theorem outputsSendInTurn : Obligations.OutputsSendInTurn := by
  intro s hheld
  have hup : exec .upstreamOutputFrame s = .next s.upstreamOutput := congrArg _ (if_neg (by simp [hheld]))
  have hdown : exec .downstreamOutputFrame s = .next s.downstreamOutput := congrArg _ (if_neg (by simp [hheld]))
  rw [hup, hdown]
  refine ⟨fun ht hi => ?_, fun f fs ht hturn => congrArg _ (upstreamOutput_transit ht hturn),
    fun g gs hi hturn => congrArg _ (upstreamOutput_insert hi hturn), fun hd => ?_, fun f fs hd => ?_⟩
  · rw [show s.upstreamOutput = s.withLi { s.li with outUp := none } by simp only [State.upstreamOutput, ht, hi]]
    rfl
  · rw [show s.downstreamOutput = s.withLi { s.li with outDown := none } by simp only [State.downstreamOutput, hd]]
    rfl
  · rw [show s.downstreamOutput = s.withLi { s.li with downPath := fs, outDown := beginSending f } by
      simp only [State.downstreamOutput, hd]]
    rfl

end Sys2Proof.Safety
end

section
/-! PROOFS. Requests on the mode, the parameters and the notices (R161 to R163, R176, R177), and those that a pending flip
refuses (R116, R119, R121, R124). -/

namespace Sys2Proof.Machine

/-! ### Updates that the log and the notices do not see -/

/-- An update of what neither OL nor NU reads or writes, so that it may come before or after a record, a raise or a test. -/
structure Beside (g : State → State) : Prop where
  param : ∀ s p, (g s).param p = s.param p
  stamp : ∀ s, (g s).stamp = s.stamp
  ol : ∀ s, (g s).ol = s.ol
  nu : ∀ s, (g s).nu = s.nu
  insert : ∀ s, (g s).li.insert = s.li.insert
  withOl : ∀ s x, (g s).withOl x = g (s.withOl x)
  withNu : ∀ s x, (g s).withNu x = g (s.withNu x)
  withInsert : ∀ s q, (g s).withLi { (g s).li with insert := q } = g (s.withLi { s.li with insert := q })

section
variable {g : State → State} (hg : Beside g) (s : State)
include hg

theorem Beside.latched : (g s).latched = s.latched := by
  rw [State.latched, State.latched, hg.param]

theorem Beside.enableSet : (g s).enableSet = s.enableSet := by
  rw [State.enableSet, State.enableSet, hg.param]

theorem Beside.deliverable : (g s).deliverable = s.deliverable := by
  rw [State.deliverable, State.deliverable, hg.nu, hg.enableSet]

theorem Beside.noticeWaits : (g s).noticeWaits = s.noticeWaits := by
  rw [State.noticeWaits, State.noticeWaits, hg.insert]

theorem Beside.notePlace : (g s).notePlace = s.notePlace := by
  rw [State.notePlace, State.notePlace, hg.insert]

theorem Beside.mergeNotice (d : ClassSet) : (g s).mergeNotice d = g (s.mergeNotice d) := by
  rw [State.mergeNotice, hg.insert, hg.withInsert]
  rfl

theorem Beside.queueGov (f : GovFrame) : (g s).queueGov f = g (s.queueGov f) := by
  rw [State.queueGov, hg.insert, hg.withInsert]
  rfl

theorem Beside.noticeTest : (g s).noticeTest = g s.noticeTest := by
  simp only [State.noticeTest, hg.deliverable, hg.noticeWaits, hg.notePlace, hg.mergeNotice, hg.queueGov, hg.nu, hg.withNu,
    apply_ite g]

theorem Beside.noticeCall : (g s).noticeCall = g s.noticeCall := by
  simp only [State.noticeCall, hg.deliverable, hg.noticeWaits, hg.notePlace, hg.mergeNotice, hg.queueGov, hg.nu, hg.withNu,
    apply_ite g]

theorem Beside.raise (c : NoticeClass) : (g s).raise c = g (s.raise c) := by
  simp only [State.raise, hg.latched, hg.enableSet, hg.nu, hg.withNu, hg.noticeTest, hg.noticeCall, apply_ite g]

theorem Beside.record (r : Record) : (g s).record r = g (s.record r) := by
  simp only [State.record, hg.param, hg.ol, hg.stamp, hg.withOl]
  (repeat' split) <;> simp only [hg.raise]

end

end Sys2Proof.Machine

namespace Sys2Proof.Safety

open Sys2Proof.Machine

theorem beside_heard : Beside heard :=
  ⟨fun _ _ => rfl, fun _ => rfl, fun _ => rfl, fun _ => rfl, fun _ => rfl, fun _ _ => rfl, fun _ _ => rfl, fun _ _ => rfl⟩

/-- The receiver and a zone evaluation are separate. -/
theorem evalZone_heard (s : State) (m : Module) : (heard s).evalZone m = heard (s.evalZone m) := by
  have hte (x : ThermalEstimator) : (heard s).withTe x = heard (s.withTe x) := rfl
  have href : (heard s).thetaEst m = s.thetaEst m := rfl
  have hparam (p : ParamId) : (heard s).param p = s.param p := rfl
  simp only [State.evalZone, hte, href, hparam, beside_heard.record, beside_heard.raise, apply_ite heard]
  rfl

/-! ### What an operation leaves, field by field -/

/-- Everything but the log, the notices and the insert queue stands. -/
theorem logsOnly_iff (s t : State) : logsOnly s t ↔ t.rh = s.rh ∧ t.ge = s.ge ∧ t.te = s.te ∧ t.ms = s.ms ∧ t.sa = s.sa
    ∧ t.cs = s.cs ∧ t.cb = s.cb ∧ t.ti = s.ti ∧ t.tg = s.tg ∧ t.pins = s.pins ∧ t.inHand = s.inHand ∧ t.pending = s.pending
    ∧ t.li.rxDown = s.li.rxDown ∧ t.li.rxUp = s.li.rxUp ∧ t.li.downPath = s.li.downPath ∧ t.li.transit = s.li.transit
    ∧ t.li.outUp = s.li.outUp ∧ t.li.outDown = s.li.outDown ∧ t.li.wordUp = s.li.wordUp ∧ t.li.wordDown = s.li.wordDown
    ∧ t.li.lastServed = s.li.lastServed := by
  constructor
  · intro h
    rw [logsOnly] at h
    rw [h]
    simp
  · obtain ⟨rh, ge, te, ms, sa, cs, cb, ti, tg, ol, nu, li, pins, inHand, pending⟩ := t
    obtain ⟨rxDown, rxUp, downPath, transit, insert, outUp, outDown, wordUp, wordDown, lastServed⟩ := li
    rintro ⟨rfl, rfl, rfl, rfl, rfl, rfl, rfl, rfl, rfl, rfl, rfl, rfl, rfl, rfl, rfl, rfl, rfl, rfl, rfl, rfl, rfl⟩
    rfl

/-! ### Zone evaluations (R43 to R46) -/

theorem param_congr {s t : State} (h : t.rh = s.rh) (p : ParamId) : t.param p = s.param p := by
  rw [State.param, State.param, h]

theorem boardRef_congr {s t : State} (hti : t.ti = s.ti) (hrh : t.rh = s.rh) : t.boardRef = s.boardRef := by
  have hobs : t.obsOf .board = s.obsOf .board := by rw [State.obsOf, State.obsOf, hti]
  have hfresh : t.isFresh .board = s.isFresh .board := by rw [State.isFresh, State.isFresh, hobs]
  rw [State.boardRef, State.boardRef, hfresh, hobs, param_congr hrh]

@[simp] theorem boardRef_evalZone (s : State) (m : Module) : (s.evalZone m).boardRef = s.boardRef :=
  boardRef_congr (by simp) (by simp)

/-- The zone that an evaluation of a module gives it. -/
def evaluatedZone (s : State) (m : Module) : Zone :=
  nextZone (s.boardRef + (s.te.get m).rise) (s.param .warm) (s.param .hot) (s.param .critical) (s.param .zoneHysteresis)
    (s.te.get m).zone

theorem evalZone_get (s : State) (m n : Module) : (s.evalZone m).te.get n
    = { s.te.get n with zone := if n = m then evaluatedZone s m else (s.te.get n).zone } := by
  rw [State.evalZone_te]
  split
  · rename_i h
    rw [h, ThermalEstimator.get_set_self]
    rfl
  · rename_i h
    rw [ThermalEstimator.get_set_of_ne _ _ _ _ h]

/-- The evaluation of one module does not reach that of the other. -/
theorem evaluatedZone_evalZone_of_ne (s : State) {m n : Module} (h : m ≠ n) : evaluatedZone (s.evalZone n) m = evaluatedZone s m := by
  have hget : (s.evalZone n).te.get m = s.te.get m := by rw [evalZone_get, if_neg h]
  have hparam (p : ParamId) : (s.evalZone n).param p = s.param p := param_congr (by simp) p
  simp only [evaluatedZone, hget, boardRef_evalZone, hparam]

/-- Both modules are evaluated from their own rises and zones. -/
theorem evalZones_get (s : State) (m : Module) : s.evalZones.te.get m = { s.te.get m with zone := evaluatedZone s m } := by
  rw [State.evalZones, evalZone_get, evalZone_get, evaluatedZone_evalZone_of_ne s (by decide : Module.b ≠ .a)]
  cases m <;> rfl

theorem logsOnly_evalZone (s : State) (m : Module) : logsOnly (s.withTe (s.evalZone m).te) (s.evalZone m) := by
  rw [logsOnly_iff]
  simp

theorem logsOnly_evalZones (s : State) : logsOnly (s.withTe s.evalZones.te) s.evalZones := by
  rw [logsOnly_iff]
  simp [State.evalZones]

/-! ### A row that RH takes -/

@[simp] theorem answered_te (tag : BitVec 4) (code : Nat) (st : Status) (more : Bool) (words : List Word) (s : State) :
    (answered tag code st more words s).te = s.te := rfl

@[simp] theorem answered_boardRef (tag : BitVec 4) (code : Nat) (st : Status) (more : Bool) (words : List Word) (s : State) :
    (answered tag code st more words s).boardRef = s.boardRef := rfl

/-- A RESPONSE and a heard frame move the receiver and the insert queue alone. -/
theorem logsOnly_answered (tag : BitVec 4) (code : Nat) (st : Status) (more : Bool) (words : List Word) (s : State) :
    logsOnly (heard s) (answered tag code st more words s) := rfl

/-- What a state differs in stays the same beside the receiver. -/
theorem logsOnly.heard {s t : State} (h : logsOnly s t) : logsOnly (heard s) (heard t) := by
  rw [logsOnly] at h ⊢
  rw [h]
  rfl

/-- A taken row answers with the reply of its effect, on what the effect makes of the state. -/
theorem exec_row {i : Instr} {code : Nat} {r : Request} {s t : State} {effect : State → State × Reply} {reply : Reply}
    (hexec : exec i s = .next (s.rowRequest code r effect)) (ht : takes code r s)
    (heffect : effect (heard s) = (heard t, reply)) :
    exec i s = .next (answered r.tag code reply.status reply.more reply.words t) := by
  rw [hexec, rowRequest_taken ht, heffect]
  exact congrArg _ (heard_respond ..)

/-! ### MODE SET (R4, R176) -/

theorem Mode.ofCode_code (m : Mode) : Mode.ofCode m.code = some m := by
  cases m <;> rfl

theorem Mode.ofCode_none {n : Nat} (h : 2 < n) : Mode.ofCode n = none := by
  unfold Mode.ofCode
  split
  case h_4 => rfl
  all_goals omega

theorem modeSetEffect_of_mode {args : List Word} {m : Mode} (h : m.code = (arg args 0).toNat) (s : State) :
    modeSetEffect args s = if m = .active ∧ s.activeRefused = true then (s, refuse .notReady)
      else (s.withGe { s.ge with mode := m, slew := clearSlew s.ge.slew }, done false [arg args 0]) := by
  have hword : Word.ofNatural m.code = arg args 0 := by simp [Word.ofNatural, h]
  rw [modeSetEffect, ← h, Mode.ofCode_code]
  simp only [hword]

theorem activeRefused_iff (s : State) : s.activeRefused = true
    ↔ s.cb.activeBank.hasPresent = false ∨ (s.cb.flip.isSome = true ∧ s.cb.standbyBank.hasPresent = false) := by
  simp [State.activeRefused]

/-- Settles O29. -/
theorem modeSetStoresTheMode : Obligations.ModeSetStoresTheMode := by
  refine ⟨rfl, fun r s ht => ⟨fun hrange => ?_, fun hactive hnone => ?_, fun m hm hready => ?_⟩⟩
  · refine exec_row (t := s) (reply := refuse .range) rfl ht ?_
    rw [modeSetEffect, Mode.ofCode_none hrange]
  · refine exec_row (t := s) (reply := refuse .notReady) rfl ht ?_
    rw [modeSetEffect_of_mode (m := .active) hactive.symm, if_pos ⟨rfl, (activeRefused_iff s).2 hnone⟩]
  · refine ⟨clearSlew s.ge.slew, fun c => clearSlew_get _ c, ?_⟩
    refine exec_row (t := s.withGe { s.ge with mode := m, slew := clearSlew s.ge.slew }) (reply := done false [arg r.args 0])
      rfl ht ?_
    rw [modeSetEffect_of_mode hm, if_neg]
    · rfl
    · rintro ⟨hmode, hrefused⟩
      obtain ⟨hpresent, hstandby⟩ := hready hmode
      rcases (activeRefused_iff s).1 hrefused with h | ⟨hflip, h⟩
      · simp [hpresent] at h
      · simp [hstandby hflip] at h

/-! ### Parameters (R177) -/

theorem paramStore_refused {p : ParamId} {v : Int} (h : p.enumerated = true) (hv : v < p.range.1 ∨ p.range.2 < v)
    (after : State → State) (s : State) : paramStore p v after s = (s, refuse .range) := if_pos ⟨h, hv⟩

/-- The answer to a write that stores a value: whether it was clamped, and the id and the stored value (R177). -/
def storedReply (p : ParamId) (v stored : Int) : Reply :=
  { status := if stored = v then .ok else .clamped, more := false, words := paramWords p stored }

theorem paramStore_stored {p : ParamId} {v : Int} (h : p.enumerated = true → p.range.1 ≤ v ∧ v ≤ p.range.2)
    (after : State → State) (s : State) :
    paramStore p v after s = (after (s.setParam p (s.storedValue p v)), storedReply p v (s.storedValue p v)) := by
  rw [paramStore, if_neg (by rintro ⟨henum, hv⟩; have := h henum; omega), done, storedReply]
  by_cases hstored : s.storedValue p v = v
  · simp [hstored]
  · simp [hstored]

/-- A PARAM WRITE that names no parameter with a row of its own stores and does no more (R177). -/
theorem paramWriteEffect_of_plain {args : List Word} {p : ParamId} (hid : p.id = (arg args 0).toNat) (hown : ownRow p.id = false)
    (s : State) : paramWriteEffect args s = paramStore p (signed32 (arg args 1) (arg args 2)) id s := by
  have hsome : ParamId.ofId (arg args 0).toNat = some p := hid ▸ ofId_id p
  simp only [paramWriteEffect, hsome]
  split
  case h_1 h => cases h
  case h_2 h => cases h; cases hown
  case h_3 h => cases h; cases hown
  case h_4 h => cases h; cases hown
  case h_5 h => cases h; cases hown
  case h_6 h => cases h; rfl

/-- The two words of a value hold it in two's complement, high word first (R177). -/
theorem words32_value {v : Int} (hlow : -2147483648 ≤ v) (hhigh : v ≤ 2147483647) :
    ∃ high low : Word, words32 v = [high, low] ∧ signed32 high low = v
      ∧ ((high.toNat : Int) * 65536 + low.toNat - v) % 4294967296 = 0 := by
  refine ⟨_, _, rfl, ?_⟩
  have hn : ((BitVec.ofInt 32 v).toNat : Int) = v % 4294967296 := by
    rw [BitVec.toNat_ofInt, Int.natCast_pow]
    exact Int.toNat_of_nonneg (Int.emod_nonneg v (by decide))
  have hlt := (BitVec.ofInt 32 v).isLt
  simp only [signed32, signedField, BitVec.toNat_ofNat]
  simp only [Nat.reducePow, Int.reducePow] at hlt ⊢
  (repeat' split) <;> omega

/-- Settles O30. -/
theorem paramWriteStoresTheClampedValue : Obligations.ParamWriteStoresTheClampedValue := by
  refine ⟨⟨rfl, rfl, fun p => ⟨ParamId.mem_all p, ?_, ?_⟩⟩, fun r s ht => ⟨fun hrange => ?_, fun p hid hown henum hv => ?_,
    fun p v stored hid hown hv hcodes hstored => ?_⟩, fun v => words32_value⟩
  · cases p <;> decide
  · cases p <;> decide
  · refine exec_row (t := s) (reply := refuse .range) rfl ht ?_
    rw [paramWriteEffect, ofId_none _ hrange]
  · refine exec_row (t := s) (reply := refuse .range) rfl ht ?_
    rw [paramWriteEffect_of_plain hid hown, paramStore_refused henum hv]
  · have hvalue : s.storedValue p v = stored := by
      rw [hstored]
      cases p <;> rfl
    have hheard : (heard s).storedValue p v = stored := hvalue
    refine ⟨?_, ?_, fun q hq => ?_⟩
    · rw [← paramWords_of_id_eq hid]
      refine exec_row (t := s.setParam p stored) (reply := storedReply p v stored) rfl ht ?_
      rw [paramWriteEffect_of_plain hid hown, ← hv, paramStore_stored hcodes, hheard]
      rfl
    · rw [State.setParam_param, if_pos rfl]
    · rw [State.setParam_param, if_neg hq]

/-- The stored value of a parameter without neighbours, with the words that answer a write of it. -/
theorem paramStore_untied {p : ParamId} (htied : p.tied = false) (henum : p.enumerated = false) (v : Int)
    (after : State → State) (s : State) :
    paramStore p v after s
      = (after (s.setParam p (clamp p.range.1 p.range.2 v)), storedReply p v (clamp p.range.1 p.range.2 v)) := by
  rw [paramStore_stored (by simp [henum]), State.storedValue_of_untied htied]

/-- An enumerated value within its codes is stored as it is (R177). -/
theorem paramStore_enumerated {p : ParamId} (htied : p.tied = false) {v : Int} (hv : p.range.1 ≤ v ∧ v ≤ p.range.2)
    (after : State → State) (s : State) :
    paramStore p v after s = (after (s.setParam p v), done false (paramWords p v)) := by
  have hclamp : clamp p.range.1 p.range.2 v = v := by
    unfold clamp
    (repeat' split) <;> omega
  rw [paramStore_stored (fun _ => hv), State.storedValue_of_untied htied, hclamp, storedReply, if_pos rfl]
  rfl

/-- Settles O32. -/
theorem tickCodeWriteRestartsTheTiming : Obligations.TickCodeWriteRestartsTheTiming := by
  intro r s v ht hv
  refine exec_row (r := { r with args := paramArgs .tickCode r.args }) (reply := storedReply .tickCode v (clamp 0 7 v)) rfl ht ?_
  rw [tickCodeEffect, ← hv, paramStore_untied rfl rfl]
  rfl

theorem heard_setParam_withTe (s : State) (p : ParamId) (v : Int) (x : ThermalEstimator) :
    ((heard s).setParam p v).withTe x = heard ((s.setParam p v).withTe x) := rfl

/-- Settles O33. -/
theorem boardFallbackWriteMovesTheReference : Obligations.BoardFallbackWriteMovesTheReference := by
  intro r s v c ht hv hc
  have heffect : boardFallbackEffect r.args (heard s)
      = (if s.isFresh .board then heard (s.setParam .boardFallback c) else (heard (s.setParam .boardFallback c)).evalZones,
        storedReply .boardFallback v c) := by
    rw [boardFallbackEffect, ← hv, paramStore_untied rfl rfl, hc]
    rfl
  have hboard (hstale : s.isFresh .board = false) : (s.setParam .boardFallback c).boardRef = c := by
    have hstands : (s.setParam .boardFallback c).isFresh .board = false := hstale
    rw [State.boardRef, if_neg (by simp [hstands]), State.setParam_param, if_pos rfl]
  refine ⟨fun hfresh => ?_, fun hstale => ?_⟩
  · refine exec_row (r := { r with args := paramArgs .boardFallback r.args }) (reply := storedReply .boardFallback v c) rfl ht ?_
    rw [heffect, if_pos hfresh]
  · refine ⟨_, exec_row (r := { r with args := paramArgs .boardFallback r.args })
      (t := ((s.setParam .boardFallback c).evalZone .a).evalZone .b) (reply := storedReply .boardFallback v c) rfl ht ?_, rfl, ?_, ?_, ?_⟩
    · rw [heffect, if_neg (by simp [hstale]), State.evalZones, evalZone_heard, evalZone_heard]
    · rw [answered_boardRef, boardRef_evalZone, boardRef_evalZone, hboard hstale]
    · intro m
      rw [answered_te, ← State.evalZones, evalZones_get, evaluatedZone, hboard hstale]
      simp only [State.setParam_param, reduceCtorEq, if_false]
      rfl
    · rw [answered_te, ← State.evalZones, heard_setParam_withTe]
      exact (logsOnly_evalZones (s.setParam .boardFallback c)).heard.trans (logsOnly_answered ..)

/-- Settles O34. -/
theorem noticeParameterWritesRetest : Obligations.NoticeParameterWritesRetest := by
  refine ⟨fun s k hparams hk => ?_, fun r s v hv => ⟨fun ht => ?_, fun ht => ?_⟩⟩
  · have hrange := hparams.all .noticeEnable
    simp only [ParamId.range] at hrange
    obtain ⟨n, hn⟩ : ∃ n : Nat, s.param .noticeEnable = n := ⟨_, (Int.toNat_of_nonneg hrange.1).symm⟩
    rw [State.enableSet, hn, BitVec.ofInt_natCast, BitVec.getLsbD_ofNat, Int.toNat_natCast]
    simp only [show k < 10 by omega, decide_true, Bool.true_and]
  · have hstore (h0 : 0 ≤ v) (h1 : v ≤ 1023) : noticeEnableEffect r.args (heard s)
        = ((heard (s.setParam .noticeEnable v)).enableWritten s.enableSet, done false (35 :: words32 v)) := by
      rw [noticeEnableEffect, ← hv, paramStore_enumerated rfl ⟨h0, h1⟩]
      rfl
    have hlatch : (s.setParam .noticeEnable v).latched = s.latched := by
      rw [State.latched, State.latched, State.setParam_param, if_neg (by decide)]
    have henable : (s.setParam .noticeEnable v).enableSet = BitVec.ofInt 10 v := by
      rw [State.enableSet, State.setParam_param, if_pos rfl]
    have hpending : (heard (s.setParam .noticeEnable v)).nu = s.nu := rfl
    have hrow {t : State} {reply : Reply} (h : noticeEnableEffect r.args (heard s) = (heard t, reply)) :
        exec (.noticeEnableWrite r) s = .next (answered r.tag 3 reply.status reply.more reply.words t) :=
      exec_row (r := { r with args := paramArgs .noticeEnable r.args }) rfl ht h
    refine ⟨fun hrange => hrow (t := s) (reply := refuse .range) ?_, fun h0 h1 hmode => hrow (reply := done false _) ?_,
      fun h0 h1 hmode hnew => hrow (reply := done false _) ?_, fun h0 h1 hmode hnone => hrow (reply := done false _) ?_⟩
    · rw [noticeEnableEffect, ← hv, paramStore_refused rfl hrange]
    · rw [hstore h0 h1, State.enableWritten, beside_heard.latched, hlatch, if_neg ((State.not_latched_iff s).2 hmode),
        beside_heard.noticeTest]
    · rw [hstore h0 h1, State.enableWritten, beside_heard.latched, hlatch, if_pos ((State.latched_iff s).2 hmode),
        beside_heard.enableSet, henable, hpending, if_pos hnew, beside_heard.noticeCall]
    · rw [hstore h0 h1, State.enableWritten, beside_heard.latched, hlatch, if_pos ((State.latched_iff s).2 hmode),
        beside_heard.enableSet, henable, hpending, if_neg (Classical.not_not.2 hnone)]
  · have hstore (h0 : 0 ≤ v) (h1 : v ≤ 1) : noticeLatchEffect r.args (heard s)
        = ((heard (s.setParam .noticeLatch v)).latchWritten s.latched, done false (36 :: words32 v)) := by
      rw [noticeLatchEffect, ← hv, paramStore_enumerated rfl ⟨h0, h1⟩]
      rfl
    have hlatched : (s.setParam .noticeLatch v).latched = (v == 1) := by
      rw [State.latched, State.setParam_param, if_pos rfl]
    have hrow {t : State} {reply : Reply} (h : noticeLatchEffect r.args (heard s) = (heard t, reply)) :
        exec (.noticeLatchWrite r) s = .next (answered r.tag 3 reply.status reply.more reply.words t) :=
      exec_row (r := { r with args := paramArgs .noticeLatch r.args }) rfl ht h
    refine ⟨fun h0 h1 => hrow (t := s) (reply := refuse .range) ?_, ?_, ?_, ?_⟩
    · rw [noticeLatchEffect, ← hv, paramStore_refused rfl (by simp only [ParamId.range]; omega)]
    · rintro rfl
      refine hrow (reply := done false _) ?_
      rw [hstore (by decide) (by decide), State.latchWritten, beside_heard.latched, hlatched, if_pos (by decide)]
      rfl
    · rintro rfl hmode
      refine hrow (reply := done false _) ?_
      rw [hstore (by decide) (by decide), State.latchWritten, beside_heard.latched, hlatched, if_neg (by decide),
        if_pos ((State.latched_iff s).2 hmode), beside_heard.nu, beside_heard.withNu, beside_heard.noticeTest]
      rfl
    · rintro rfl hmode
      refine hrow (reply := done false _) ?_
      rw [hstore (by decide) (by decide), State.latchWritten, beside_heard.latched, hlatched, if_neg (by decide),
        if_neg ((State.not_latched_iff s).2 hmode), beside_heard.noticeTest]
      rfl

/-! ### Requests that a pending flip refuses or ends (R116, R119, R121, R124) -/

/-- Settles O37. -/
theorem pendingFlipRefusesBankChanges : Obligations.PendingFlipRefusesBankChanges := by
  intro r s hflip
  have hheard : (heard s).cb.flip.isSome = true := hflip
  refine ⟨fun ht => exec_row (reply := refuse .busy) rfl ht ?_, fun ht => exec_row (reply := refuse .busy) rfl ht ?_,
    fun ht => exec_row (reply := refuse .busy) rfl ht ?_, fun ht => exec_copy_of_pending ht hflip,
    fun ht hpoint => exec_row (reply := refuse .busy) rfl ht ?_⟩
  · rw [chainWriteEffect, if_pos hheard]
  · rw [ruleWriteEffect, if_pos hheard]
  · rw [headerWriteEffect, if_pos hheard]
  · obtain ⟨p, hp⟩ : ∃ p, FlipPoint.ofCode (arg r.args 0).toNat = some p := by
      obtain h | h : (arg r.args 0).toNat = 0 ∨ (arg r.args 0).toNat = 1 := by omega
      · exact ⟨.frame, by rw [h]; rfl⟩
      · exact ⟨.quiet, by rw [h]; rfl⟩
    simp only [flipEffect, hp, if_pos hheard]

/-- Settles O41. -/
theorem flipCancelEndsThePendingFlip : Obligations.FlipCancelEndsThePendingFlip := by
  refine fun r s ht => ⟨fun hnone => exec_row (reply := refuse .state) rfl ht ?_, fun hflip =>
    ⟨_, rfl, exec_row (reply := done false []) rfl ht ?_, rfl, rfl, fun n => ?_⟩⟩
  · rw [flipCancelEffect, if_neg (by simp [hnone])]
  · rw [flipCancelEffect, if_pos (by exact hflip)]
    rfl
  · rw [State.pinned_of_flip_none rfl, List.any_eq_true]
    simp only [beq_iff_eq]
    rfl

/-! ### NOTICE CLEAR (R163) -/

/-- Settles O48. -/
theorem noticeClearRemovesPendingClasses : Obligations.NoticeClearRemovesPendingClasses := by
  refine fun r s ht => ⟨fun hrange => exec_row (reply := refuse .range) rfl ht ?_, fun hmask =>
    ⟨s.nu.pending &&& ~~~ BitVec.ofNat 10 (arg r.args 0).toNat, fun k hk => ?_, exec_row (reply := done false []) rfl ht ?_⟩⟩
  · rw [noticeClearEffect, if_pos (by omega)]
  · simp only [BitVec.getLsbD_and, BitVec.getLsbD_not, BitVec.getLsbD_ofNat, bit, hk, decide_true, Bool.true_and]
  · rw [noticeClearEffect, if_neg (by omega)]
    rfl

end Sys2Proof.Safety
end

section
/-! PROOFS. Work that takes the chains in turn: the application of a flip (R67, R90, R126), and the tick work of the
Mismatch Supervisor (R60 to R62, R65) and of the Grant Engine (R16, R28, R125). -/

namespace Sys2Proof.Machine

theorem recordsLength_nil_append (a : List Record) (r : Record) : recordsLength (a ++ [r]) = recordsLength a + r.length := by
  simp [recordsLength]

theorem list_sum_le {bound : Nat} : ∀ {l : List Nat}, (∀ x ∈ l, x ≤ bound) → l.sum ≤ bound * l.length
  | [], _ => Nat.zero_le _
  | x :: xs, h => by
    have hx := h x (.head _)
    have hxs := list_sum_le (l := xs) fun y hy => h y (.tail _ hy)
    rw [List.sum_cons, List.length_cons, Nat.mul_succ]
    omega

theorem recordsLength_le {l : List Record} (h : ∀ r ∈ l, r.length ≤ 6) : recordsLength l ≤ 6 * l.length := by
  have hle := list_sum_le (l := l.map Record.length) (bound := 6) fun x hx => by
    obtain ⟨r, hr, rfl⟩ := List.mem_map.1 hx
    exact h r hr
  rwa [List.length_map] at hle

/-! ### Several records handed to OL (R155) -/

/-- From one state to the next the given records were handed to OL, in order. In OVERWRITE, with a fill that is that of the
records held, they stand last, the newest records before them stand where all of these fit, and of the older ones an end
stands. -/
structure Appends (s t : State) (new : List Record) : Prop where
  rh : t.rh = s.rh
  tg : t.tg = s.tg
  log : s.param .logMode = 1 → s.ol.fill = recordsLength s.ol.store → ∀ old tail, s.ol.store = old ++ tail →
    recordsLength tail + recordsLength new ≤ 512 →
      ∃ kept, kept <:+ old ∧ t.ol.store = kept ++ tail ++ new ∧ t.ol.fill = recordsLength t.ol.store

theorem Appends.stamp {s t : State} {new : List Record} (h : Appends s t new) : t.stamp = s.stamp := by
  rw [State.stamp, State.stamp, h.tg]

theorem Appends.of_ol {s t : State} (hrh : t.rh = s.rh) (htg : t.tg = s.tg) (hol : t.ol = s.ol) : Appends s t [] where
  rh := hrh
  tg := htg
  log := fun _ hfill old tail hstore _ => ⟨old, List.suffix_rfl, by simp [hol, hstore], by rw [hol, hfill]⟩

theorem Appends.record (s : State) (r : Record) : Appends s (s.record r) [r] where
  rh := State.record_rh s r
  tg := State.record_tg s r
  log := fun hmode hfill old tail hstore hroom => State.record_keeps s r old tail hmode hfill hstore (by
    simpa [recordsLength] using hroom)

theorem Appends.trans {s t u : State} {a b : List Record} (hst : Appends s t a) (htu : Appends t u b) : Appends s u (a ++ b) where
  rh := htu.rh.trans hst.rh
  tg := htu.tg.trans hst.tg
  log := fun hmode hfill old tail hstore hroom => by
    rw [recordsLength_append] at hroom
    obtain ⟨kept, hkept, ht, htfill⟩ := hst.log hmode hfill old tail hstore (by omega)
    obtain ⟨left, hleft, hu, hufill⟩ := htu.log ((Safety.param_congr hst.rh _).trans hmode) htfill kept (tail ++ a)
      (by rw [ht, List.append_assoc]) (by rw [recordsLength_append]; omega)
    exact ⟨left, hleft.trans hkept, by rw [hu, List.append_assoc, List.append_assoc, List.append_assoc], hufill⟩

theorem Appends.raise {s t : State} {new : List Record} (h : Appends s t new) (c : NoticeClass) : Appends s (t.raise c) new := by
  have hraise := h.trans (Appends.of_ol (State.raise_rh t c) (State.raise_tg t c) (State.raise_ol t c))
  rwa [List.append_nil] at hraise

/-- Of a sound log in OVERWRITE an end stands before the new records, where these fit. -/
theorem Appends.store {s t : State} {new : List Record} (h : Appends s t new) (hs : Safety.logSound s)
    (hmode : s.param .logMode = 1) (hroom : recordsLength new ≤ 512) :
    ∃ kept, kept <:+ s.ol.store ∧ t.ol.store = kept ++ new := by
  obtain ⟨hfill, -⟩ := hs
  obtain ⟨kept, hkept, ht, -⟩ := h.log hmode hfill s.ol.store [] (List.append_nil _).symm (by simpa [recordsLength] using hroom)
  exact ⟨kept, hkept, by rw [ht, List.append_nil]⟩

/-! ### Work on the mismatch records of some chains (R65) -/

/-- The MISMATCH records of the chains of a list whose state differs between two states (R65). -/
def changeRecords (cs : List Chain) (s t : State) : List Record :=
  (cs.filter fun d => (t.ms.get d).state != (s.ms.get d).state).map fun d =>
    .mismatch d (s.ms.get d).state (t.ms.get d).state (s.ms.get d).lastRL s.stamp

theorem changeRecords_congr {cs : List Chain} {s t s' t' : State} (hs : ∀ d ∈ cs, s'.ms.get d = s.ms.get d)
    (ht : ∀ d ∈ cs, t'.ms.get d = t.ms.get d) (hstamp : s'.stamp = s.stamp) :
    changeRecords cs s' t' = changeRecords cs s t := by
  have hfilter := List.filter_congr (l := cs) (p := fun d => (t'.ms.get d).state != (s'.ms.get d).state)
    (q := fun d => (t.ms.get d).state != (s.ms.get d).state) fun d hd => by rw [hs d hd, ht d hd]
  rw [changeRecords, changeRecords, hfilter]
  refine List.map_congr_left fun d hd => ?_
  obtain ⟨hmem, -⟩ := List.mem_filter.1 hd
  rw [hs d hmem, ht d hmem, hstamp]

theorem changeRecords_append (cs ds : List Chain) (s t : State) :
    changeRecords (cs ++ ds) s t = changeRecords cs s t ++ changeRecords ds s t := by
  simp [changeRecords]

theorem changeRecords_length (cs : List Chain) (s t : State) : recordsLength (changeRecords cs s t) ≤ 6 * cs.length := by
  have hlength : (changeRecords cs s t).length ≤ cs.length := by
    rw [changeRecords, List.length_map]
    exact List.length_filter_le _ _
  have hle := recordsLength_le (l := changeRecords cs s t) fun r hr => by
    obtain ⟨d, -, rfl⟩ := List.mem_map.1 hr
    simp [Record.length]
  omega

/-! ### The tick work of one chain (R60 to R62) -/

/-- The record that tick work gives a chain (R60 to R62). -/
def State.chainTicked (s : State) (c : Chain) : ChainRecord :=
  let r := s.ms.get c
  match r.state with
  | .matched => r
  | .detuned =>
    if s.recoveryDue c then r.changed .matched (s.paramNat .parkTicks)
    else { r with recovery := if r.improving then r.recovery + 1 else r.recovery }
  | .severe =>
    if s.recoveryDue c then r.changed .detuned (s.paramNat .parkTicks)
    else if s.parkingDue c then r.changed .parked (s.paramNat .parkTicks)
    else { r with recovery := if r.improving then r.recovery + 1 else r.recovery, severe := r.severe + 1 }
  | .parked => if s.releaseDue c then r.changed .detuned (s.paramNat .parkTicks) else { r with park := r.park - 1 }

section
variable {s : State} {c : Chain}

theorem State.chainTicked_matched (h : (s.ms.get c).state = .matched) : s.chainTicked c = s.ms.get c := by
  simp [State.chainTicked, h]

theorem State.chainTicked_detuned (h : (s.ms.get c).state = .detuned) : s.chainTicked c =
    if s.recoveryDue c then (s.ms.get c).changed .matched (s.paramNat .parkTicks)
    else { s.ms.get c with
      recovery := if (s.ms.get c).improving then (s.ms.get c).recovery + 1 else (s.ms.get c).recovery } := by
  simp [State.chainTicked, h]

theorem State.chainTicked_severe (h : (s.ms.get c).state = .severe) : s.chainTicked c =
    if s.recoveryDue c then (s.ms.get c).changed .detuned (s.paramNat .parkTicks)
    else if s.parkingDue c then (s.ms.get c).changed .parked (s.paramNat .parkTicks)
    else { s.ms.get c with
      recovery := if (s.ms.get c).improving then (s.ms.get c).recovery + 1 else (s.ms.get c).recovery
      severe := (s.ms.get c).severe + 1 } := by
  simp [State.chainTicked, h]

theorem State.chainTicked_parked (h : (s.ms.get c).state = .parked) : s.chainTicked c =
    if s.releaseDue c then (s.ms.get c).changed .detuned (s.paramNat .parkTicks)
    else { s.ms.get c with park := (s.ms.get c).park - 1 } := by
  simp [State.chainTicked, h]

/-- A chain whose record stands has nothing written; one whose counts move has its record stored; one whose state changes
has it changed with a MISMATCH record. -/
theorem State.tickChain_eq : s.tickChain c =
    if (s.ms.get c).state = .matched then s
    else if (s.chainTicked c).state = (s.ms.get c).state then s.setChain c (s.chainTicked c)
    else ((s.setChain c (s.chainTicked c)).record
      (.mismatch c (s.ms.get c).state (s.chainTicked c).state (s.ms.get c).lastRL s.stamp)).raise .mismatch := by
  unfold State.tickChain
  cases hstate : (s.ms.get c).state with
  | matched => simp [hstate]
  | detuned =>
    rw [State.chainTicked_detuned hstate]
    cases hdue : s.recoveryDue c <;> simp [State.changeMismatch, ChainRecord.changed, MismatchState.better, hstate]
  | severe =>
    rw [State.chainTicked_severe hstate]
    cases hdue : s.recoveryDue c
    · cases hpark : s.parkingDue c <;> simp [State.changeMismatch, ChainRecord.changed, hstate]
    · simp [State.changeMismatch, ChainRecord.changed, MismatchState.better, hstate]
  | parked =>
    rw [State.chainTicked_parked hstate]
    cases hdue : s.releaseDue c <;> simp [State.changeMismatch, ChainRecord.changed, hstate]

/-- The next record of a chain is read from its own record and from the parameters (R54). -/
theorem State.chainTicked_congr {t : State} (hrh : t.rh = s.rh) (hget : t.ms.get c = s.ms.get c) :
    t.chainTicked c = s.chainTicked c := by
  have hparam (p : ParamId) : t.param p = s.param p := Safety.param_congr hrh p
  have hrecovery : t.recoveryDue c = s.recoveryDue c := by simp only [State.recoveryDue, hparam, hget]
  have hparking : t.parkingDue c = s.parkingDue c := by simp only [State.parkingDue, hrecovery, hparam, hget]
  have hrelease : t.releaseDue c = s.releaseDue c := by simp only [State.releaseDue, hget]
  have hticks : t.paramNat .parkTicks = s.paramNat .parkTicks := by simp only [State.paramNat, hparam]
  cases hstate : (s.ms.get c).state with
  | matched => rw [chainTicked_matched hstate, chainTicked_matched (hget ▸ hstate), hget]
  | detuned => rw [chainTicked_detuned hstate, chainTicked_detuned (hget ▸ hstate), hget, hrecovery, hticks]
  | severe => rw [chainTicked_severe hstate, chainTicked_severe (hget ▸ hstate), hget, hrecovery, hparking, hticks]
  | parked => rw [chainTicked_parked hstate, chainTicked_parked (hget ▸ hstate), hget, hrelease, hticks]

end

end Sys2Proof.Machine

namespace Sys2Proof.Safety

open Sys2Proof.Machine

theorem logsOnly.rh {s t : State} (h : logsOnly s t) : t.rh = s.rh := by
  rw [logsOnly] at h
  exact (congrArg State.rh h).trans rfl

theorem logsOnly.cb {s t : State} (h : logsOnly s t) : t.cb = s.cb := by
  rw [logsOnly] at h
  exact (congrArg State.cb h).trans rfl

theorem logsOnly.ge {s t : State} (h : logsOnly s t) : t.ge = s.ge := by
  rw [logsOnly] at h
  exact (congrArg State.ge h).trans rfl

theorem logsOnly.ms {s t : State} (h : logsOnly s t) : t.ms = s.ms := by
  rw [logsOnly] at h
  exact (congrArg State.ms h).trans rfl

theorem logsOnly.tg {s t : State} (h : logsOnly s t) : t.tg = s.tg := by
  rw [logsOnly] at h
  exact (congrArg State.tg h).trans rfl

theorem logsOnly.withMs {s t : State} (h : logsOnly s t) (x : Vector ChainRecord 4) : logsOnly (s.withMs x) (t.withMs x) := by
  rw [logsOnly] at h ⊢
  rw [h]
  rfl

theorem logsOnly.flipEnded {s t : State} (h : logsOnly s t) : logsOnly s.flipEnded t.flipEnded := by
  rw [logsOnly] at h ⊢
  rw [h]
  rfl

/-- Work that gives each chain of a list its next record, writes a MISMATCH record for each one whose state changes, in
list order, raises the class with it, and does no more. -/
structure ChainsWork (next : Chain → ChainRecord) (cs : List Chain) (s t : State) : Prop where
  get : ∀ d, t.ms.get d = if d ∈ cs then next d else s.ms.get d
  appends : Appends s t (changeRecords cs s t)
  raised : (∃ d ∈ cs, (t.ms.get d).state ≠ (s.ms.get d).state) → raised .mismatch t
  keepsRaised : Safety.raised .mismatch s → Safety.raised .mismatch t
  stands : (∀ d ∈ cs, (t.ms.get d).state = (s.ms.get d).state) → t = s.withMs t.ms
  logs : logsOnly (s.withMs t.ms) t

theorem ChainsWork.trans {next : Chain → ChainRecord} {cs ds : List Chain} {s t u : State} (hst : ChainsWork next cs s t)
    (htu : ChainsWork next ds t u) (hdisjoint : ∀ d ∈ cs, d ∉ ds) : ChainsWork next (cs ++ ds) s u := by
  have hfirst (d : Chain) (hd : d ∈ cs) : u.ms.get d = t.ms.get d := by rw [htu.get, if_neg (hdisjoint d hd)]
  have hsecond (d : Chain) (hd : d ∈ ds) : t.ms.get d = s.ms.get d := by
    rw [hst.get, if_neg fun h => hdisjoint d h hd]
  have hrecords : changeRecords (cs ++ ds) s u = changeRecords cs s t ++ changeRecords ds t u := by
    rw [changeRecords_append, changeRecords_congr (fun _ _ => rfl) hfirst rfl,
      changeRecords_congr (s := t) (fun d hd => (hsecond d hd).symm) (fun _ _ => rfl) hst.appends.stamp.symm]
  refine ⟨fun d => ?_, hrecords ▸ hst.appends.trans htu.appends, ?_, fun h => htu.keepsRaised (hst.keepsRaised h),
    fun hsame => ?_, ?_⟩
  · rw [htu.get, hst.get]
    simp only [List.mem_append]
    by_cases hd : d ∈ cs
    · simp [hd, hdisjoint d hd]
    · simp [hd]
  · rintro ⟨d, hd, hchanged⟩
    rcases List.mem_append.1 hd with hd | hd
    · exact htu.keepsRaised (hst.raised ⟨d, hd, by rwa [hfirst d hd] at hchanged⟩)
    · exact htu.raised ⟨d, hd, by rwa [hsecond d hd]⟩
  · have ht := hst.stands fun d hd => by rw [← hfirst d hd]; exact hsame d (List.mem_append_left _ hd)
    have hu := htu.stands fun d hd => by rw [hsecond d hd]; exact hsame d (List.mem_append_right _ hd)
    rw [hu, ht]
    rfl
  · exact (hst.logs.withMs u.ms).trans htu.logs

/-- Work on one chain without a change of its state. -/
theorem ChainsWork.setChain {next : Chain → ChainRecord} (s : State) (c : Chain) (h : (next c).state = (s.ms.get c).state) :
    ChainsWork next [c] s (s.setChain c (next c)) := by
  have hself : (s.setChain c (next c)).ms.get c = next c := State.setChain_ms_self ..
  refine ⟨fun d => ?_, ?_, ?_, id, fun _ => rfl, rfl⟩
  · by_cases hd : d = c
    · subst hd
      simp [hself]
    · simp [hd, State.setChain_ms_of_ne]
  · have hnone : changeRecords [c] s (s.setChain c (next c)) = [] := by
      simp [changeRecords, hself, h]
    rw [hnone]
    exact .of_ol rfl rfl rfl
  · rintro ⟨d, hd, hchanged⟩
    obtain rfl := List.mem_singleton.1 hd
    exact absurd (by rw [hself, h]) hchanged

/-- Work on one chain that changes its state: the record, the MISMATCH record and the class (R65). -/
theorem ChainsWork.change {next : Chain → ChainRecord} (s : State) (c : Chain) (h : (next c).state ≠ (s.ms.get c).state) :
    ChainsWork next [c] s (((s.setChain c (next c)).record
      (.mismatch c (s.ms.get c).state (next c).state (s.ms.get c).lastRL s.stamp)).raise .mismatch) := by
  obtain ⟨u, hu⟩ : ∃ u, u = s.setChain c (next c) := ⟨_, rfl⟩
  have hself : u.ms.get c = next c := hu ▸ State.setChain_ms_self ..
  have hset : Appends s u [] := hu ▸ .of_ol rfl rfl rfl
  have hlogs : logsOnly (s.withMs u.ms) u := hu ▸ rfl
  have hkeeps (hr : Safety.raised .mismatch s) : Safety.raised .mismatch u := hu ▸ hr
  have hget (d : Chain) : u.ms.get d = if d ∈ [c] then next d else s.ms.get d := by
    by_cases hd : d = c
    · simp [hd, hself]
    · simp [hu, hd, State.setChain_ms_of_ne]
  rw [← hu]
  have hrecords (t : State) (ht : t.ms = u.ms) : changeRecords [c] s t
      = [] ++ [.mismatch c (s.ms.get c).state (next c).state (s.ms.get c).lastRL s.stamp] := by
    simp [changeRecords, ht, hself, h]
  have hms (r : Record) : ((u.record r).raise .mismatch).ms = u.ms := by simp
  refine ⟨fun d => by rw [hms, hget], ?_, fun _ => raised_raise_self _ _, fun hr => raised_raise (raised_record (hkeeps hr) _) _,
    fun hsame => ?_, ?_⟩
  · rw [hrecords _ (hms _)]
    exact (hset.trans (.record u _)).raise .mismatch
  · refine absurd ?_ h
    have hc := hsame c (List.mem_singleton_self c)
    rwa [hms, hself] at hc
  · rw [hms]
    exact hlogs.trans ((logsOnly_record u _).trans (logsOnly_raise _ _))

theorem ChainsWork.refl {next : Chain → ChainRecord} (s : State) (c : Chain) (h : next c = s.ms.get c) :
    ChainsWork next [c] s s := by
  refine ⟨fun d => ?_, ?_, ?_, id, fun _ => rfl, rfl⟩
  · by_cases hd : d = c
    · simp [hd, h]
    · simp [hd]
  · rw [show changeRecords [c] s s = [] by simp [changeRecords]]
    exact .of_ol rfl rfl rfl
  · rintro ⟨d, -, hchanged⟩
    exact absurd rfl hchanged

/-- The four chains in chain order. -/
def allChains : List Chain := [0, 1, 2, 3]

theorem mem_allChains (c : Chain) : c ∈ allChains := by
  match c with
  | 0 | 1 | 2 | 3 => decide

theorem ChainsWork.get_all {next : Chain → ChainRecord} {s t : State} (h : ChainsWork next allChains s t) (c : Chain) :
    t.ms.get c = next c := by
  rw [h.get, if_pos (mem_allChains c)]

/-- In a sound log in OVERWRITE the MISMATCH records of the four chains stand last. -/
theorem ChainsWork.store {next : Chain → ChainRecord} {s t : State} (h : ChainsWork next allChains s t) (hs : logSound s)
    (hmode : s.param .logMode = 1) : ∃ kept, kept <:+ s.ol.store ∧ t.ol.store = kept ++ changeRecords allChains s t :=
  h.appends.store hs hmode (Nat.le_trans (changeRecords_length allChains s t) (by decide))

/-- One step of work per chain, in chain order; each step may count on the record of its chain as it stood before, and on
what the work leaves. -/
theorem ChainsWork.all {next : Chain → ChainRecord} {work : Chain → State → State} (s : State)
    (h : ∀ (c : Chain) (cs : List Chain) (t : State), c ∉ cs → ChainsWork next cs s t → ChainsWork next [c] t (work c t)) :
    ChainsWork next allChains s (work 3 (work 2 (work 1 (work 0 s)))) := by
  have h0 : ChainsWork next [] s s := ⟨fun d => by simp, .of_ol rfl rfl rfl, by simp, id, fun _ => rfl, rfl⟩
  have h1 := h0.trans (h 0 [] s (by simp) h0) (by simp)
  have h2 := h1.trans (h 1 _ _ (by simp) h1) (by simp)
  have h3 := h2.trans (h 2 _ _ (by simp) h2) (by simp)
  exact h3.trans (h 3 _ _ (by simp) h3) (by simp)

/-- What the work on some chains leaves of another one. -/
theorem ChainsWork.get_of_not_mem {next : Chain → ChainRecord} {cs : List Chain} {s t : State} (h : ChainsWork next cs s t)
    {c : Chain} (hc : c ∉ cs) : t.ms.get c = s.ms.get c := by
  rw [h.get, if_neg hc]

/-! ### The application of a flip (R67, R90, R126) -/

/-- The record of a chain under a flip: reset when its descriptor in the active bank is absent (R67). -/
def flipNext (s : State) (c : Chain) : ChainRecord :=
  if (s.cb.activeBank.descriptor c).present then s.ms.get c else ChainRecord.reset

theorem absentReset_works (s : State) : ChainsWork (flipNext s) allChains s s.absentReset := by
  refine ChainsWork.all s fun c cs t hc ht => ?_
  have hget := ht.get_of_not_mem hc
  have hcb : t.cb = s.cb := ht.logs.cb
  unfold State.flipResetAbsent
  rw [hcb]
  split
  · rename_i hpresent
    exact .refl t c (by rw [flipNext, if_pos hpresent, hget])
  · rename_i hpresent
    have hnext : flipNext s c = ChainRecord.reset := if_neg hpresent
    simp only [State.flipResetChain]
    rw [← hnext]
    split
    · rename_i hmatched
      exact .setChain t c (by rw [hnext, hmatched]; rfl)
    · rename_i hmatched
      have hchange := ChainsWork.change (next := flipNext s) t c (by rw [hnext]; exact Ne.symm hmatched)
      rwa [hnext] at hchange ⊢

/-- The laws of a flip, from the state after the reset of the absent chains on. -/
theorem flip_laws {p : FlipPoint} {s a t : State}
    (ha : ChainsWork (flipNext s.banksExchanged.slewCleared) allChains s.banksExchanged.slewCleared a)
    (ht : t = (a.flipEnded.record (.flip a.flipEnded.cb.active p a.flipEnded.stamp)).raise .flip) :
    logsOnly { s with
        cb := { s.cb with active := s.cb.standbyId, flip := none }
        ge := { s.ge with slew := clearSlew s.ge.slew }
        ms := a.ms } t
      ∧ Appends s.banksExchanged.slewCleared t (changeRecords allChains s.banksExchanged.slewCleared a
          ++ [.flip s.cb.standbyId p s.stamp])
      ∧ (raised .mismatch a → raised .mismatch t) ∧ raised .flip t
      ∧ (s.param .logMode = 1 → newest t = some (.flip s.cb.standbyId p s.stamp)) := by
  have hended := ha.logs.flipEnded
  have hactive : a.flipEnded.cb.active = s.cb.standbyId := congrArg ConfigBanks.active hended.cb
  have hstamp : a.flipEnded.stamp = s.stamp := ha.appends.stamp
  have hparam : a.flipEnded.param .logMode = s.param .logMode := param_congr hended.rh _
  have happends : Appends s.banksExchanged.slewCleared a.flipEnded (changeRecords allChains s.banksExchanged.slewCleared a) := by
    have h := ha.appends.trans (.of_ol (t := a.flipEnded) rfl rfl rfl)
    rwa [List.append_nil] at h
  rw [hactive, hstamp] at ht
  subst ht
  exact ⟨hended.trans ((logsOnly_record _ _).trans (logsOnly_raise _ _)), (happends.trans (.record _ _)).raise .flip,
    fun h => raised_raise (raised_record (s := a.flipEnded) h _) _, raised_raise_self _ _,
    fun hmode => newest_record_raise (hparam.trans hmode) _ _⟩

/-- Settles O40: the chains by `absentReset_works`, the rest by `flip_laws`. -/
theorem flipApplicationExchangesTheBanks : Obligations.FlipApplicationExchangesTheBanks := by
  intro p s t ht
  obtain ⟨a, ha, ht⟩ : ∃ a, ChainsWork (flipNext s.banksExchanged.slewCleared) allChains s.banksExchanged.slewCleared a
      ∧ t = (a.flipEnded.record (.flip a.flipEnded.cb.active p a.flipEnded.stamp)).raise .flip :=
    ⟨_, absentReset_works _, ht.trans (State.applyFlip_eq s p)⟩
  obtain ⟨hlogs, happends, hmismatch, hflip, hnewest⟩ := flip_laws ha ht
  have hcb := hlogs.cb
  have hge := hlogs.ge
  have hms := hlogs.ms
  have hnext (c : Chain) : a.ms.get c = if (s.cb.standbyBank.descriptor c).present then s.ms.get c else ChainRecord.reset :=
    ha.get_all c
  refine ⟨hcb, ?_, ?_, fun c => ?_, fun c => by rw [hms]; exact hnext c, fun c habsent hstate => ?_, hnewest, hflip, ?_⟩
  · rw [hcb]
    exact ConfigBanks.exchange_activeBank _ _
  · rw [hcb]
    exact ConfigBanks.exchange_standbyBank _ _
  · rw [hge]
    exact clearSlew_get _ c
  · have hreset : a.ms.get c = ChainRecord.reset := by rw [hnext, if_neg (by simp [habsent])]
    refine ⟨hmismatch (ha.raised ⟨c, mem_allChains c, by rw [hreset]; exact hstate.symm⟩), fun hsound hmode => ?_⟩
    have hroom := changeRecords_length allChains s.banksExchanged.slewCleared a
    obtain ⟨kept, -, hstore⟩ := happends.store hsound hmode (by
      rw [recordsLength_nil_append]
      simp only [allChains, List.length_cons, List.length_nil, Record.length] at hroom ⊢
      omega)
    rw [hstore]
    refine List.mem_append_right _ (List.mem_append_left _ (List.mem_map.2 ⟨c, List.mem_filter.2 ⟨mem_allChains c, ?_⟩, ?_⟩))
    · rw [hreset]
      exact bne_iff_ne.2 hstate.symm
    · rw [hreset]
      rfl
  · rw [hcb, hms, hge]
    exact hlogs

/-! ### The tick work of the Mismatch Supervisor (R60 to R62, R65) -/

theorem tickChain_works {next : Chain → ChainRecord} {s : State} {c : Chain} (h : next c = s.chainTicked c) :
    ChainsWork next [c] s (s.tickChain c) := by
  rw [State.tickChain_eq, ← h]
  repeat' split
  · rename_i hmatched
    exact .refl s c (h.trans (State.chainTicked_matched hmatched))
  · rename_i hsame
    exact .setChain s c hsame
  · rename_i hsame
    exact .change s c hsame

theorem tickChain_get (s : State) (c : Chain) : (s.tickChain c).ms.get c = s.chainTicked c := by
  rw [(tickChain_works (next := s.chainTicked) rfl).get, if_pos (List.mem_singleton_self c)]

theorem tickMs_works (s : State) : ChainsWork s.chainTicked allChains s s.tickMs :=
  ChainsWork.all s fun _ _ _ hc ht =>
    tickChain_works (State.chainTicked_congr ht.appends.rh (ht.get_of_not_mem hc)).symm

theorem recoveryDue_iff (s : State) (c : Chain) : s.recoveryDue c = true
    ↔ ((s.ms.get c).state = .detuned ∨ (s.ms.get c).state = .severe) ∧ (s.ms.get c).improving = true
      ∧ s.param .recoverTicks ≤ (s.ms.get c).recovery + 1 := by
  simp [State.recoveryDue, and_assoc]

theorem recoveryDue_eq_false {s : State} {c : Chain}
    (h : (s.ms.get c).improving = false ∨ ((s.ms.get c).recovery : Int) + 1 < s.param .recoverTicks) :
    s.recoveryDue c = false := by
  rw [← Bool.not_eq_true, recoveryDue_iff]
  rintro ⟨-, himproving, hcount⟩
  rcases h with h | h
  · simp [h] at himproving
  · omega

theorem parkingDue_iff (s : State) (c : Chain) : s.parkingDue c = true
    ↔ (s.ms.get c).state = .severe ∧ s.recoveryDue c = false ∧ s.param .severeLimit ≤ (s.ms.get c).severe + 1 := by
  simp [State.parkingDue, and_assoc]

theorem releaseDue_iff (s : State) (c : Chain) : s.releaseDue c = true
    ↔ (s.ms.get c).state = .parked ∧ (s.ms.get c).park ≤ 1 := by
  simp [State.releaseDue]

/-- A recovery, a parking or a release that is due changes the chain's state. -/
theorem chainTicked_state_of_due {s : State} {c : Chain}
    (h : s.recoveryDue c = true ∨ s.parkingDue c = true ∨ s.releaseDue c = true) :
    (s.chainTicked c).state ≠ (s.ms.get c).state := by
  rcases h with h | h | h
  · obtain ⟨hstate | hstate, -⟩ := (recoveryDue_iff s c).1 h
    · rw [State.chainTicked_detuned hstate, if_pos h, hstate]
      simp [ChainRecord.changed]
    · rw [State.chainTicked_severe hstate, if_pos h, hstate]
      simp [ChainRecord.changed]
  · obtain ⟨hstate, hrecovery, -⟩ := (parkingDue_iff s c).1 h
    rw [State.chainTicked_severe hstate, if_neg (by simp [hrecovery]), if_pos h, hstate]
    simp [ChainRecord.changed]
  · obtain ⟨hstate, -⟩ := (releaseDue_iff s c).1 h
    rw [State.chainTicked_parked hstate, if_pos h, hstate]
    simp [ChainRecord.changed]

/-- The rows of the Mismatch Supervisor, when due, and its tick are the same work. -/
theorem exec_mismatchRow {i : Instr} {c : Chain} {s : State} (howed : s.inHand.tick.ms = true)
    (hclock : s.pins.refclkAbsent = false)
    (hi : i = .recovery c ∧ s.recoveryDue c = true ∨ i = .parking c ∧ s.parkingDue c = true
      ∨ i = .parkRelease c ∧ s.releaseDue c = true ∨ i = .tick .deliver [.ms] ∧ s.held = false) :
    exec i s = .next (s.withInHand { s.inHand with tick := { s.inHand.tick with ms := false } }).tickMs
      ∧ (i ≠ .tick .deliver [.ms] → (s.chainTicked c).state ≠ (s.ms.get c).state) := by
  have hwork := s.takeWork_owed .ms howed hclock
  rcases hi with ⟨rfl, hdue⟩ | ⟨rfl, hdue⟩ | ⟨rfl, hdue⟩ | ⟨rfl, hheld⟩
  · exact ⟨congrArg _ ((if_pos hdue).trans hwork), fun _ => chainTicked_state_of_due (.inl hdue)⟩
  · exact ⟨congrArg _ ((if_pos hdue).trans hwork), fun _ => chainTicked_state_of_due (.inr (.inl hdue))⟩
  · exact ⟨congrArg _ ((if_pos hdue).trans hwork), fun _ => chainTicked_state_of_due (.inr (.inr hdue))⟩
  · exact ⟨(exec_tick_deliver hheld _).trans (congrArg _ hwork), fun h => absurd rfl h⟩

/-- Settles O55: the work of the four chains by `tickMs_works`, and each chain's next record by its cases. -/
theorem mismatchRowsTakeTheTickWork : Obligations.MismatchRowsTakeTheTickWork := by
  intro c s
  refine ⟨fun hnone => ?_, fun i howed hclock hi => ?_, ?_, fun d hd => ?_, ?_, ?_, ?_⟩
  · have hstands : s.takeWork .ms = s := hnone.elim (s.takeWork_done .ms) (s.takeWork_absent .ms)
    exact ⟨congrArg _ ((congrArg (ite _ · s) hstands).trans (ite_self s)),
      congrArg _ ((congrArg (ite _ · s) hstands).trans (ite_self s)),
      congrArg _ ((congrArg (ite _ · s) hstands).trans (ite_self s))⟩
  · obtain ⟨hexec, hchanged⟩ := exec_mismatchRow howed hclock hi
    have hworks := tickMs_works (s.withInHand { s.inHand with tick := { s.inHand.tick with ms := false } })
    refine ⟨_, hexec, fun hrow => hworks.raised ⟨c, mem_allChains c, ?_⟩, ?_, fun hsame => hworks.stands fun d _ => hsame d,
      fun hsound hmode => ?_, fun d => ?_, hworks.logs⟩
    · rw [hworks.get_all]
      exact hchanged hrow
    · rintro ⟨d, hd⟩
      exact hworks.raised ⟨d, mem_allChains d, hd⟩
    · exact hworks.store hsound hmode
    · rw [hworks.get_all, tickChain_get]
      rfl
  · rintro r rfl himproving hcount
    have hdue (h : (s.ms.get c).state = .detuned ∨ (s.ms.get c).state = .severe) : s.recoveryDue c = true :=
      (recoveryDue_iff s c).2 ⟨h, himproving, hcount⟩
    rw [tickChain_get]
    refine ⟨fun hstate => ?_, fun hstate => ?_⟩
    · rw [State.chainTicked_severe hstate, if_pos (hdue (.inr hstate))]
      simp [ChainRecord.changed, ChainRecord.reset, hstate]
    · rw [State.chainTicked_detuned hstate, if_pos (hdue (.inl hstate))]
      simp [ChainRecord.changed, ChainRecord.reset, hstate]
  · exact (tickChain_works (next := s.chainTicked) rfl).get_of_not_mem (by simpa using hd)
  · rintro r rfl
    refine ⟨fun hstate => by rw [State.tickChain_eq, if_pos hstate], fun hstate hshort => ?_⟩
    rw [tickChain_get, State.chainTicked_detuned hstate, if_neg (by simp [recoveryDue_eq_false hshort])]
  · rintro r rfl hstate hshort
    have hrecovery := recoveryDue_eq_false hshort
    rw [tickChain_get, State.chainTicked_severe hstate, if_neg (by simp [hrecovery])]
    refine ⟨fun hlimit => ?_, fun hlimit => ?_⟩
    · rw [if_pos ((parkingDue_iff s c).2 ⟨hstate, hrecovery, hlimit⟩)]
      simp [ChainRecord.changed, ChainRecord.reset, hstate]
    · rw [if_neg (by rw [parkingDue_iff]; omega)]
  · rintro r rfl hstate
    rw [tickChain_get, State.chainTicked_parked hstate]
    refine ⟨fun hend => ?_, fun hrun => ?_⟩
    · rw [if_pos ((releaseDue_iff s c).2 ⟨hstate, hend⟩)]
      simp [ChainRecord.changed, ChainRecord.reset, hstate]
    · rw [if_neg (by rw [releaseDue_iff]; omega)]

/-! ### The tick work of the Grant Engine (R16, R28, R125) -/

theorem aged_eq (m : SlewMemory) (expiry : Int) : m.aged expiry
    = if m.valid then { last := m.last, age := m.age + 1, valid := decide ((m.age : Int) + 1 < expiry) } else m := rfl

theorem aged_last (m : SlewMemory) (expiry : Int) : (m.aged expiry).last = m.last := by
  rw [aged_eq]
  split <;> rfl

/-- A memory still valid was valid and is one tick older. -/
theorem of_aged_valid {m : SlewMemory} {expiry : Int} (h : (m.aged expiry).valid = true) :
    m.valid = true ∧ (m.aged expiry).age = m.age + 1 := by
  rw [aged_eq] at h ⊢
  cases hvalid : m.valid with
  | true => rw [if_pos rfl]; exact ⟨rfl, rfl⟩
  | false =>
    rw [if_neg (by rw [hvalid]; exact Bool.false_ne_true), hvalid] at h
    exact absurd h Bool.false_ne_true

theorem aged_expired {m : SlewMemory} {expiry : Int} (hvalid : m.valid = true) (h : expiry ≤ m.age + 1) :
    (m.aged expiry).valid = false := by
  rw [aged_eq, if_pos hvalid]
  exact decide_eq_false (by omega)

theorem quieted_slew (s : State) (count : Nat) (stream : StreamState) (d : Chain) :
    (s.quieted count stream).ge.slew.get d = (s.ge.slew.get d).aged (s.param .slewExpiry) := ageSlews_get _ _ d

/-- The tick is not the one at which the stream becomes QUIET (R28, R152). -/
theorem quietDue_eq_false {s : State}
    (h : s.ge.stream = .quiet ∨ s.inHand.tick.ordered = true ∨ (s.ge.quietCount : Int) + 1 < s.param .quietTicks) :
    s.quietDue = false := by
  rw [← Bool.not_eq_true, State.quietDue_iff]
  rintro ⟨hstream, hordered, hcount⟩
  rcases h with h | h | h
  · simp [h] at hstream
  · simp [h] at hordered
  · omega

/-- Each slew memory that GE's tick work leaves is aged, or aged and cleared by a flip (R16, R126). -/
theorem tickGe_slew (s : State) (d : Chain) : s.tickGe.ge.slew.get d = (s.ge.slew.get d).aged (s.param .slewExpiry)
    ∨ s.tickGe.ge.slew.get d = { last := (s.ge.slew.get d).last, valid := false, age := 0 } := by
  cases hdue : s.quietDue with
  | false =>
    rw [State.tickGe_of_not_due hdue]
    exact .inl (quieted_slew s _ _ d)
  | true =>
    obtain ⟨-, -, -, hslew, -⟩ := flipApplicationExchangesTheBanks .quiet (s.quieted (s.ge.quietCount + 1) .quiet) _ rfl
    rw [State.tickGe_of_due hdue]
    repeat' split
    · rw [hslew, quieted_slew, aged_last]
      exact .inr rfl
    · exact .inl (quieted_slew s _ _ d)

/-- The debt of the Grant Engine taken off the tick in hand. -/
def geTaken (s : State) : State := s.withInHand { s.inHand with tick := s.inHand.tick.taken .ge }

theorem takeWork_ge {s : State} (howed : s.inHand.tick.ge = true) (hclock : s.pins.refclkAbsent = false) :
    s.takeWork .ge = (geTaken s).tickGe := s.takeWork_owed .ge howed hclock

/-- GE's tick work when the stream does not become QUIET at it. -/
theorem takeWork_ge_of_not_due {s : State} (howed : s.inHand.tick.ge = true) (hclock : s.pins.refclkAbsent = false)
    (hdue : s.quietDue = false) : s.takeWork .ge = (geTaken s).quieted s.nextQuietCount s.ge.stream := by
  rw [takeWork_ge howed hclock, State.tickGe_of_not_due (s := geTaken s) hdue]
  rfl

theorem takeWork_ge_of_due {s : State} (howed : s.inHand.tick.ge = true) (hclock : s.pins.refclkAbsent = false)
    (hdue : s.quietDue = true) : s.takeWork .ge = if s.cb.flip = some .quiet then
      ((geTaken s).quieted (s.ge.quietCount + 1) .quiet).applyFlip .quiet
        else (geTaken s).quieted (s.ge.quietCount + 1) .quiet := by
  rw [takeWork_ge howed hclock, State.tickGe_of_due (s := geTaken s) hdue]
  rfl

theorem exec_slewExpiry (c : Chain) (s : State) :
    exec (.slewExpiry c) s = .next (if s.expiryDue c then s.takeWork .ge else s) := rfl

theorem exec_streamQuiet (s : State) : exec .streamQuiet s = .next (if s.quietDue then s.takeWork .ge else s) := rfl

theorem exec_tick_ge {s : State} (hheld : s.held = false) : exec (.tick .deliver [.ge]) s = .next (s.takeWork .ge) :=
  exec_tick_deliver hheld [.ge]

theorem expiryDue_iff (s : State) (c : Chain) : s.expiryDue c = true
    ↔ (s.ge.slew.get c).valid = true ∧ s.param .slewExpiry ≤ (s.ge.slew.get c).age + 1 := by
  simp [State.expiryDue]

/-- The ages and the quiet count as one tick of GE leaves them when the stream does not become QUIET (R16, R28). -/
theorem quieted_laws (s : State) : let t := (geTaken s).quieted s.nextQuietCount s.ge.stream
    (∀ d : Chain, t.ge.slew.get d = if (s.ge.slew.get d).valid then
        { last := (s.ge.slew.get d).last, age := (s.ge.slew.get d).age + 1,
          valid := decide (((s.ge.slew.get d).age : Int) + 1 < s.param .slewExpiry) }
      else s.ge.slew.get d)
    ∧ t = { s with
        inHand := { s.inHand with tick := { s.inHand.tick with ge := false, ordered := false } }
        ge := { s.ge with
          slew := t.ge.slew
          quietCount := if s.ge.stream = .live ∧ s.inHand.tick.ordered = false then s.ge.quietCount + 1
            else s.ge.quietCount } } :=
  ⟨fun d => (quieted_slew _ _ _ d).trans (aged_eq _ _), rfl⟩

/-- Settles O53: both rows and the tick are the one tick work, which `tickGe` gives by whether the stream becomes QUIET. -/
theorem grantEngineRowsTakeItsTickWork : Obligations.GrantEngineRowsTakeItsTickWork := by
  intro c s
  refine ⟨fun hnone => ?_, fun howed hclock hvalid hexpiry => ?_, fun hheld howed hclock hrest => ?_,
    fun hheld => ⟨fun hvalid hexpiry => ?_, fun hordered hlive hcount => ?_⟩, fun hordered => ?_,
    fun hheld howed hclock hordered => ?_, fun howed hclock hordered hlive hcount => ?_⟩
  · have hstands : s.takeWork .ge = s := hnone.elim (s.takeWork_done .ge) (s.takeWork_absent .ge)
    rw [exec_slewExpiry, exec_streamQuiet, hstands, ite_self, ite_self]
    exact ⟨rfl, rfl⟩
  · have hslew := tickGe_slew (geTaken s) c
    rw [← takeWork_ge howed hclock] at hslew
    refine ⟨_, by rw [exec_slewExpiry, if_pos ((expiryDue_iff s c).2 ⟨hvalid, hexpiry⟩)], ?_, ?_, fun hrest => ?_⟩
    · rcases hslew with h | h
      · rw [h]
        exact aged_expired hvalid hexpiry
      · rw [h]
    · rcases hslew with h | h
      · rw [h, aged_last]
        rfl
      · rw [h]
        rfl
    · rw [takeWork_ge_of_not_due howed hclock (quietDue_eq_false hrest)]
      exact quieted_laws s
  · refine ⟨_, (exec_tick_ge hheld).trans (congrArg _ (takeWork_ge_of_not_due howed hclock (quietDue_eq_false hrest))), ?_⟩
    exact quieted_laws s
  · rw [exec_slewExpiry, if_pos ((expiryDue_iff s c).2 ⟨hvalid, hexpiry⟩), exec_tick_ge hheld]
  · rw [exec_streamQuiet, if_pos (s.quietDue_iff.2 ⟨hlive, hordered, hcount⟩), exec_tick_ge hheld]
  · rw [exec_streamQuiet, quietDue_eq_false (.inr (.inl hordered)), if_neg Bool.false_ne_true]
  · refine ⟨_, (exec_tick_ge hheld).trans (congrArg _
      (takeWork_ge_of_not_due howed hclock (quietDue_eq_false (.inr (.inl hordered))))), rfl, ?_, rfl, rfl⟩
    exact if_neg (by simp [hordered])
  · have hdue := s.quietDue_iff.2 ⟨hlive, hordered, hcount⟩
    obtain ⟨u, hu⟩ : ∃ u, u = (geTaken s).quieted (s.ge.quietCount + 1) .quiet := ⟨_, rfl⟩
    have hslew (d : Chain) : u.ge.slew.get d = (s.ge.slew.get d).aged (s.param .slewExpiry) := hu ▸ quieted_slew _ _ _ d
    have hge : u.ge = { s.ge with slew := u.ge.slew, stream := .quiet, quietCount := s.ge.quietCount + 1 } := by
      rw [hu]
      rfl
    have hstate : u = { s with
        inHand := { s.inHand with tick := { s.inHand.tick with ge := false, ordered := false } }
        ge := { s.ge with slew := u.ge.slew, stream := .quiet, quietCount := s.ge.quietCount + 1 } } := by
      rw [hu]
      rfl
    have hexec : exec .streamQuiet s = .next (if s.cb.flip = some .quiet then u.applyFlip .quiet else u) := by
      rw [exec_streamQuiet, if_pos hdue, takeWork_ge_of_due howed hclock hdue, hu]
    have hcb : u.cb = s.cb := by rw [hu]; rfl
    have hms : u.ms = s.ms := by rw [hu]; rfl
    have hparam : u.param .logMode = s.param .logMode := by rw [hu]; rfl
    have hstamp : u.stamp = s.stamp := by rw [hu]; rfl
    clear hu
    rw [hexec]
    by_cases hflip : s.cb.flip = some .quiet
    · obtain ⟨hcb', -, -, hslew', hms', -, hnewest, hraised, hlogs⟩ := flipApplicationExchangesTheBanks .quiet u _ rfl
      have hge' : (u.applyFlip .quiet).ge = { u.ge with slew := (u.applyFlip .quiet).ge.slew } := hlogs.ge
      rw [hcb] at hcb' hms' hnewest
      refine ⟨_, rfl, ?_, ?_, ?_, fun hnone => absurd hflip hnone, fun _ => ?_, u, rfl, hstate, hslew⟩
      · rw [if_pos hflip, hge', hge]
      · rw [if_pos hflip, hge', hge]
      · rw [if_pos hflip, hge', hge]
      · rw [if_pos hflip]
        refine ⟨hcb', fun d => ?_, fun d => ?_, fun hmode => ?_, hraised⟩
        · rw [hslew', hslew, aged_last]
        · rw [hms', hms]
        · rw [hnewest (hparam.trans hmode), hstamp]
    · refine ⟨_, rfl, ?_, ?_, ?_, fun _ => ?_, fun h => absurd h hflip, u, rfl, hstate, hslew⟩
      · rw [if_neg hflip, hge]
      · rw [if_neg hflip, hge]
      · rw [if_neg hflip, hge]
      · rw [if_neg hflip]
        refine ⟨?_, fun d hvalid => ?_⟩
        · rw [hge]
          exact hstate
        · rw [hslew] at hvalid ⊢
          exact of_aged_valid hvalid

end Sys2Proof.Safety
end

section
/-! PROOFS. What a reflected power does at the Mismatch Supervisor (R55 to R59, R63 to R65), and the tick work and the
zones of the Thermal Estimator (R35, R36, R43 to R46). -/

namespace Sys2Proof.Machine

/-! ### A count of worsening readings (R57, R58) -/

theorem setChain_setChain (s : State) (c : Chain) (q r : ChainRecord) : (s.setChain c q).setChain c r = s.setChain c r := by
  simp [State.setChain, State.withMs]

theorem worsen_of_short {s : State} {c : Chain} {q : ChainRecord} (h : (q.confirm : Int) + 1 < s.param .confirm)
    (new : MismatchState) : (s.setChain c q).worsen c new = s.setChain c { q with confirm := q.confirm + 1 } := by
  have hget : (s.setChain c q).ms.get c = q := State.setChain_ms_self ..
  have hparam : (s.setChain c q).param .confirm = s.param .confirm := rfl
  simp only [State.worsen, hget, hparam]
  rw [if_neg (by omega), setChain_setChain]

theorem worsen_of_full {s : State} {c : Chain} {q : ChainRecord} (h : s.param .confirm ≤ q.confirm + 1)
    (new : MismatchState) : (s.setChain c q).worsen c new = (s.setChain c q).changeMismatch c new := by
  have hget : (s.setChain c q).ms.get c = q := State.setChain_ms_self ..
  have hparam : (s.setChain c q).param .confirm = s.param .confirm := rfl
  simp only [State.worsen, hget, hparam]
  rw [if_pos h]

theorem worsen_ms_of_ne {s : State} {c d : Chain} (h : d ≠ c) (new : MismatchState) :
    (s.worsen c new).ms.get d = s.ms.get d := by
  simp only [State.worsen]
  repeat' split
  · rw [State.changeMismatch_ms]
    exact State.setChain_ms_of_ne _ _ _ _ h
  · exact State.setChain_ms_of_ne _ _ _ _ h

theorem evaluateReading_ms_of_ne (s : State) {c d : Chain} (h : d ≠ c) (rl : Int) :
    (s.evaluateReading c rl).ms.get d = s.ms.get d := by
  have hset (r : ChainRecord) : (s.setChain c r).ms.get d = s.ms.get d := State.setChain_ms_of_ne _ _ _ _ h
  cases hstate : (s.ms.get c).state with
  | matched =>
    rw [State.evaluateReading_matched hstate]
    split
    · exact hset _
    · exact (worsen_ms_of_ne h _).trans (hset _)
    · exact (worsen_ms_of_ne h _).trans (hset _)
  | detuned =>
    rw [State.evaluateReading_detuned hstate]
    split
    · exact (worsen_ms_of_ne h _).trans (hset _)
    · exact hset _
  | severe =>
    rw [State.evaluateReading_severe hstate]
    exact hset _
  | parked => rw [State.evaluateReading_parked hstate]

/-! ### The class of a return loss (R56) -/

section
variable {s : State} {rl : Int}

theorem int_le_or_lt (a b : Int) : a ≤ b ∨ b < a := by
  omega

theorem classOf_good (h : s.param .detuneThreshold ≤ rl) : s.classOf rl = .good := if_pos h

theorem classOf_poor (h : rl < s.param .detuneThreshold) (h' : s.param .severeThreshold ≤ rl) : s.classOf rl = .poor :=
  (if_neg (Int.not_le.2 h)).trans (if_pos h')

theorem classOf_bad (h : rl < s.param .detuneThreshold) (h' : rl < s.param .severeThreshold) : s.classOf rl = .bad :=
  (if_neg (Int.not_le.2 h)).trans (if_neg (Int.not_le.2 h'))

end

/-- The improving rule, by whether the return loss reaches the state's threshold and the hysteresis above it (R59). -/
theorem improve_eq (r : ChainRecord) (improving : Bool) : r.improve improving = { r with
    improving := improving, recovery := if improving = true ∧ r.improving = false then 0 else r.recovery } := by
  obtain ⟨_, _, old, _, _, _, _, _⟩ := r
  cases improving <;> cases old <;> rfl

/-! ### The zone that an evaluation gives (R43 to R45) -/

theorem ite_lt_eq_ite_le {α : Type} (a b : Int) (x y : α) : (if a < b then x else y) = if b ≤ a then y else x := by
  split
  · exact (if_neg (by omega)).symm
  · exact (if_pos (by omega)).symm

section
variable {θ warm hot critical hyst : Int}

theorem nextZone_of_reached {z : Zone} (h : z.code < (risingZone θ warm hot critical).code) :
    nextZone θ warm hot critical hyst z = risingZone θ warm hot critical := if_pos h

theorem nextZone_of_not_reached {z : Zone} (h : (risingZone θ warm hot critical).code ≤ z.code) :
    nextZone θ warm hot critical hyst z = fallZone θ warm hot critical hyst z := if_neg (Nat.not_lt.2 h)

theorem risingZone_critical (h : critical ≤ θ) : risingZone θ warm hot critical = .critical := if_pos h

theorem risingZone_hot (h : hot ≤ θ) (h' : θ < critical) : risingZone θ warm hot critical = .hot := by
  rw [risingZone, if_neg (by omega), if_pos h]

theorem risingZone_warm (h : warm ≤ θ) (h' : θ < hot) (hc : hot < critical) : risingZone θ warm hot critical = .warm := by
  rw [risingZone, if_neg (by omega), if_neg (by omega), if_pos h]

theorem risingZone_cool (h : θ < warm) (hw : warm < hot) (hc : hot < critical) : risingZone θ warm hot critical = .cool := by
  rw [risingZone, if_neg (by omega), if_neg (by omega), if_neg (by omega)]

theorem risingZone_code_le_warm (h : θ < hot) (hc : hot < critical) : (risingZone θ warm hot critical).code ≤ 1 := by
  rw [risingZone, if_neg (by omega), if_neg (by omega)]
  (repeat' split) <;> decide

theorem risingZone_code_le_critical : (risingZone θ warm hot critical).code ≤ 3 := by
  unfold risingZone
  (repeat' split) <;> decide

theorem fallZone_warm : fallZone θ warm hot critical hyst .warm = if warm - hyst ≤ θ then .warm else .cool :=
  ite_lt_eq_ite_le ..

theorem fallZone_hot : fallZone θ warm hot critical hyst .hot
    = if hot - hyst ≤ θ then .hot else if warm - hyst ≤ θ then .warm else .cool :=
  (ite_lt_eq_ite_le ..).trans (by rw [fallFromWarm, ite_lt_eq_ite_le])

theorem fallZone_critical : fallZone θ warm hot critical hyst .critical
    = if critical - hyst ≤ θ then .critical else if hot - hyst ≤ θ then .hot
      else if warm - hyst ≤ θ then .warm else .cool :=
  (ite_lt_eq_ite_le ..).trans (by rw [fallFromHot, fallFromWarm, ite_lt_eq_ite_le, ite_lt_eq_ite_le])

/-! With rising thresholds, the zone by the band of the temperature and the zone before. -/

section
variable (hwarm : warm < hot) (hhot : hot < critical) (hhyst : 0 ≤ hyst)

include hhyst in
theorem nextZone_at_critical (h : critical ≤ θ) (z : Zone) : nextZone θ warm hot critical hyst z = .critical := by
  have hrise := risingZone_critical (warm := warm) (hot := hot) h
  cases z with
  | critical => rw [nextZone_of_not_reached (Nat.le_of_eq (congrArg Zone.code hrise)), fallZone_critical, if_pos (by omega)]
  | cool => rw [nextZone_of_reached (by rw [hrise]; decide), hrise]
  | warm => rw [nextZone_of_reached (by rw [hrise]; decide), hrise]
  | hot => rw [nextZone_of_reached (by rw [hrise]; decide), hrise]

include hhyst in
theorem nextZone_at_hot (h : hot ≤ θ) (h' : θ < critical) {z : Zone} (hz : z ≠ .critical) :
    nextZone θ warm hot critical hyst z = .hot := by
  have hrise := risingZone_hot (warm := warm) h h'
  cases z with
  | critical => exact absurd rfl hz
  | hot => rw [nextZone_of_not_reached (Nat.le_of_eq (congrArg Zone.code hrise)), fallZone_hot, if_pos (by omega)]
  | cool => rw [nextZone_of_reached (by rw [hrise]; decide), hrise]
  | warm => rw [nextZone_of_reached (by rw [hrise]; decide), hrise]

include hhot hhyst in
theorem nextZone_at_warm (h : warm ≤ θ) (h' : θ < hot) {z : Zone} (hz : z = .cool ∨ z = .warm) :
    nextZone θ warm hot critical hyst z = .warm := by
  have hrise := risingZone_warm h h' hhot
  rcases hz with rfl | rfl
  · rw [nextZone_of_reached (by rw [hrise]; decide), hrise]
  · rw [nextZone_of_not_reached (Nat.le_of_eq (congrArg Zone.code hrise)), fallZone_warm, if_pos (by omega)]

include hwarm hhot in
theorem nextZone_cool (h : θ < warm) : nextZone θ warm hot critical hyst .cool = .cool :=
  nextZone_of_not_reached (Nat.le_of_eq (congrArg Zone.code (risingZone_cool h hwarm hhot)))

include hwarm hhot in
theorem nextZone_warm (h : θ < warm) :
    nextZone θ warm hot critical hyst .warm = if warm - hyst ≤ θ then .warm else .cool := by
  rw [nextZone_of_not_reached (by rw [risingZone_cool h hwarm hhot]; decide), fallZone_warm]

include hhot in
theorem nextZone_hot (h : θ < hot) : nextZone θ warm hot critical hyst .hot
    = if hot - hyst ≤ θ then .hot else if warm - hyst ≤ θ then .warm else .cool := by
  rw [nextZone_of_not_reached (Nat.le_trans (risingZone_code_le_warm h hhot) (by decide)), fallZone_hot]

theorem nextZone_critical : nextZone θ warm hot critical hyst .critical
    = if critical - hyst ≤ θ then .critical else if hot - hyst ≤ θ then .hot
      else if warm - hyst ≤ θ then .warm else .cool := by
  rw [nextZone_of_not_reached risingZone_code_le_critical, fallZone_critical]

include hwarm hhot hhyst in
/-- An evaluation ends in a zone that the next one does not leave (R45). -/
theorem nextZone_settles (z : Zone) :
    nextZone θ warm hot critical hyst (nextZone θ warm hot critical hyst z) = nextZone θ warm hot critical hyst z := by
  have hcritical (h : critical - hyst ≤ θ) : nextZone θ warm hot critical hyst .critical = .critical := by
    rw [nextZone_critical, if_pos h]
  have hhot' (h : hot - hyst ≤ θ) (h' : θ < critical) : nextZone θ warm hot critical hyst .hot = .hot := by
    rcases int_le_or_lt hot θ with hge | hlt
    · exact nextZone_at_hot hhyst hge h' (by decide)
    · rw [nextZone_hot hhot hlt, if_pos h]
  have hwarm' (h : warm - hyst ≤ θ) (h' : θ < hot) : nextZone θ warm hot critical hyst .warm = .warm := by
    rcases int_le_or_lt warm θ with hge | hlt
    · exact nextZone_at_warm hhot hhyst hge h' (.inr rfl)
    · rw [nextZone_warm hwarm hhot hlt, if_pos h]
  have hcool (h : θ < warm) := nextZone_cool (hyst := hyst) hwarm hhot h
  rcases int_le_or_lt critical θ with h3 | h3
  · rw [nextZone_at_critical hhyst h3, nextZone_at_critical hhyst h3]
  rcases int_le_or_lt hot θ with h2 | h2
  · by_cases hz : z = .critical
    · rw [hz, nextZone_critical]
      repeat' split
      · exact hcritical ‹_›
      · exact hhot' ‹_› h3
      · omega
      · omega
    · rw [nextZone_at_hot hhyst h2 h3 hz, hhot' (by omega) h3]
  rcases int_le_or_lt warm θ with h1 | h1
  · cases z with
    | cool => rw [nextZone_at_warm hhot hhyst h1 h2 (.inl rfl), hwarm' (by omega) h2]
    | warm => rw [nextZone_at_warm hhot hhyst h1 h2 (.inr rfl), hwarm' (by omega) h2]
    | hot =>
      rw [nextZone_hot hhot h2]
      repeat' split
      · exact hhot' ‹_› h3
      · exact hwarm' ‹_› h2
      · omega
    | critical =>
      rw [nextZone_critical]
      repeat' split
      · exact hcritical ‹_›
      · exact hhot' ‹_› h3
      · exact hwarm' ‹_› h2
      · omega
  · cases z with
    | cool => rw [hcool h1, hcool h1]
    | warm =>
      rw [nextZone_warm hwarm hhot h1]
      repeat' split
      · exact hwarm' ‹_› h2
      · exact hcool h1
    | hot =>
      rw [nextZone_hot hhot h2]
      repeat' split
      · exact hhot' ‹_› h3
      · exact hwarm' ‹_› h2
      · exact hcool h1
    | critical =>
      rw [nextZone_critical]
      repeat' split
      · exact hcritical ‹_›
      · exact hhot' ‹_› h3
      · exact hwarm' ‹_› h2
      · exact hcool h1

end
end
/-! ### The rise of a tick (R35, R36) -/

/-- The new rise in the integers: no difference falls below 0, as the cooling is at most the rise. -/
theorem cooledRise_eq (rise own other κ : Nat) {α : Nat} (β : Nat) (hα : α ≤ 256) :
    (cooledRise rise (effectiveHeat own other κ) α β : Int)
      = clamp 0 1023 ((rise : Int) - rise * α / 256 + min 1048575 ((own : Int) + other * κ / 256) * β / 65536) := by
  have hcool : rise * α / 256 ≤ rise := Nat.div_le_of_le_mul (by rw [Nat.mul_comm]; exact Nat.mul_le_mul_right _ hα)
  have hheat : ((effectiveHeat own other κ : Nat) : Int) = min 1048575 ((own : Int) + other * κ / 256) := by
    unfold effectiveHeat
    omega
  have hsum : ((rise - rise * α / 256 + effectiveHeat own other κ * β / 65536 : Nat) : Int)
      = (rise : Int) - rise * α / 256 + min 1048575 ((own : Int) + other * κ / 256) * β / 65536 := by
    rw [← hheat]
    simp only [Int.natCast_add, Int.natCast_sub hcool, Int.natCast_ediv, Int.natCast_mul]
    rfl
  rw [← hsum, cooledRise, clamp]
  generalize rise - rise * α / 256 + effectiveHeat own other κ * β / 65536 = n
  (repeat' split) <;> omega

end Sys2Proof.Machine

namespace Sys2Proof.Safety

open Sys2Proof.Machine

/-- A run of worsening readings at its end: the new state, its record and the class (R57, R58, R65). -/
theorem worsened_laws {s t : State} {c : Chain} {q : ChainRecord} {new : MismatchState}
    (hfull : s.param .confirm ≤ q.confirm + 1) (hq : q.state ≠ .parked) (hnew : new ≠ .parked)
    (ht : t = (s.setChain c q).worsen c new) :
    t.ms.get c = { ChainRecord.reset with state := new, lastRL := q.lastRL } ∧ raised .mismatch t
      ∧ (s.param .logMode = 1 → newest t = some (.mismatch c q.state new q.lastRL s.stamp)) := by
  have hget : (s.setChain c q).ms.get c = q := State.setChain_ms_self ..
  rw [worsen_of_full hfull] at ht
  refine ⟨?_, ?_, fun hmode => ?_⟩
  · rw [ht, State.changeMismatch_ms, hget]
    simp [get_eq_getElem, ChainRecord.changed, ChainRecord.reset, hq, hnew]
  · rw [ht]
    exact raised_raise_self _ _
  · rw [ht, State.changeMismatch]
    simp only [hget]
    have hkeeps (r : ChainRecord) : (s.setChain c r).param .logMode = 1 := hmode
    rw [setChain_setChain, newest_record_raise (hkeeps _)]
    rfl

theorem reflDelivered_of_counts {s : State} {c : Chain} (hstate : (s.ms.get c).state ≠ .parked)
    (hfresh : s.isFresh (.fwd c) = true) (hfloor : s.param .forwardFloor ≤ (s.obsOf (.fwd c)).value) (v : Int) :
    s.reflDelivered c v = s.evaluateReading c ((s.obsOf (.fwd c)).value - v) := by
  rw [State.reflDelivered, if_pos]
  simp [State.reflCounts, hstate, hfresh, hfloor]

theorem reflDelivered_of_not_counts {s : State} {c : Chain}
    (h : (s.ms.get c).state = .parked ∨ s.isFresh (.fwd c) = false ∨ (s.obsOf (.fwd c)).value < s.param .forwardFloor)
    (v : Int) : s.reflDelivered c v = s := by
  rw [State.reflDelivered, if_neg]
  simp only [State.reflCounts, Bool.and_eq_true, decide_eq_true_eq, not_and]
  rintro ⟨hstate, hfresh⟩
  rcases h with h | h | h
  · exact absurd h hstate
  · simp [h] at hfresh
  · omega

section
variable {s t : State} {c : Chain} {rl : Int} (ht : t = s.evaluateReading c rl)
include ht

theorem evaluate_matched_good (hstate : (s.ms.get c).state = .matched) (hgood : s.param .detuneThreshold ≤ rl) :
    t = s.setChain c { (s.ms.get c).evaluated rl with confirm := 0 } := by
  rw [ht, State.evaluateReading_matched hstate, classOf_good hgood]

/-- In MATCHED a poor reading counts toward DETUNED and a bad one toward SEVERE (R57). -/
theorem evaluate_matched_worse (hstate : (s.ms.get c).state = .matched) (hbelow : rl < s.param .detuneThreshold) :
    t = (s.setChain c ((s.ms.get c).evaluated rl)).worsen c (if s.param .severeThreshold ≤ rl then .detuned else .severe) := by
  rw [ht, State.evaluateReading_matched hstate]
  rcases int_le_or_lt (s.param .severeThreshold) rl with hsevere | hsevere
  · rw [classOf_poor hbelow hsevere, if_pos hsevere]
  · rw [classOf_bad hbelow hsevere, if_neg (Int.not_le.2 hsevere)]

theorem evaluate_detuned_not_bad (hstate : (s.ms.get c).state = .detuned)
    (h : s.param .severeThreshold ≤ rl ∨ s.param .detuneThreshold ≤ rl) :
    t = s.setChain c { ((s.ms.get c).evaluated rl).improve (s.improves .detuned rl) with confirm := 0 } := by
  rw [ht, State.evaluateReading_detuned hstate, hstate]
  rcases int_le_or_lt (s.param .detuneThreshold) rl with hgood | hbelow
  · rw [classOf_good hgood]
  · rw [classOf_poor hbelow (h.resolve_right (Int.not_le.2 hbelow))]

theorem evaluate_detuned_bad (hstate : (s.ms.get c).state = .detuned) (hsevere : rl < s.param .severeThreshold)
    (hdetune : rl < s.param .detuneThreshold) :
    t = (s.setChain c (((s.ms.get c).evaluated rl).improve (s.improves .detuned rl))).worsen c .severe := by
  rw [ht, State.evaluateReading_detuned hstate, hstate, classOf_bad hdetune hsevere]

theorem evaluate_severe (hstate : (s.ms.get c).state = .severe) :
    t = s.setChain c { ((s.ms.get c).evaluated rl).improve (s.improves .severe rl) with confirm := 0 } := by
  rw [ht, State.evaluateReading_severe hstate, hstate]

end

/-- The record of an evaluated reading in DETUNED, by whether it improves (R59). -/
theorem improved_detuned (r : ChainRecord) (s : State) (rl : Int) :
    (r.evaluated rl).improve (s.improves .detuned rl)
      = if s.param .detuneThreshold + s.param .hysteresis ≤ rl then
          { r with probe := false, lastRL := rl, improving := true, recovery := if r.improving then r.recovery else 0 }
        else { r with probe := false, lastRL := rl, improving := false } := by
  rw [improve_eq]
  by_cases h : s.param .detuneThreshold + s.param .hysteresis ≤ rl
  · cases himproving : r.improving <;> simp [State.improves, State.improvingBase, ChainRecord.evaluated, h, himproving]
  · simp [State.improves, State.improvingBase, ChainRecord.evaluated, h]

/-- The same in SEVERE. -/
theorem improved_severe (r : ChainRecord) (s : State) (rl : Int) :
    (r.evaluated rl).improve (s.improves .severe rl) = { r with
      probe := false
      lastRL := rl
      improving := decide (s.param .severeThreshold + s.param .hysteresis ≤ rl)
      recovery := if s.param .severeThreshold + s.param .hysteresis ≤ rl ∧ r.improving = false then 0 else r.recovery } := by
  rw [improve_eq]
  by_cases h : s.param .severeThreshold + s.param .hysteresis ≤ rl <;>
    simp [State.improves, State.improvingBase, ChainRecord.evaluated, h]

/-- Settles O60: by the state of the chain and the class of the return loss. -/
theorem reflectedReadingsMoveTheMismatchState : Obligations.ReflectedReadingsMoveTheMismatchState := by
  rintro c v rl s t r rfl hrl ht
  refine ⟨fun hnot => ht.trans (reflDelivered_of_not_counts hnot v), fun hfresh hfloor => ?_, ?_, fun d hd => ?_⟩
  · have heval (h : (s.ms.get c).state ≠ .parked) : t = s.evaluateReading c rl := by
      rw [ht, reflDelivered_of_counts h hfresh hfloor, ← hrl]
    refine ⟨fun hstate hgood => ?_, fun hstate hbelow hcount => ?_, fun hstate hbelow hcount => ?_, fun hstate q hq => ?_, fun hstate => ?_⟩
    · rw [evaluate_matched_good (heval (by simp [hstate])) hstate hgood]
      rfl
    · rw [evaluate_matched_worse (heval (by simp [hstate])) hstate hbelow]
      exact worsen_of_short (q := (s.ms.get c).evaluated rl) hcount _
    · have hmatched : ((s.ms.get c).evaluated rl).state = .matched := hstate
      have h := worsened_laws (q := (s.ms.get c).evaluated rl) hcount (by simp [hmatched]) (by (repeat' split) <;> decide)
        (evaluate_matched_worse (heval (by simp [hstate])) hstate hbelow)
      rwa [hmatched] at h
    · rw [← improved_detuned] at hq
      have hdetuned : q.state = .detuned := by rw [hq, improve_state]; exact hstate
      have hconfirm : q.confirm = (s.ms.get c).confirm := by rw [hq, improve_eq]; rfl
      have hlast : q.lastRL = rl := by rw [hq, improve_eq]; rfl
      have hbad := evaluate_detuned_bad (heval (by simp [hstate])) hstate
      rw [← hq] at hbad
      refine ⟨fun hnotbad => ?_, fun hsevere hdetune hcount => ?_, fun hsevere hdetune hcount => ?_⟩
      · rw [evaluate_detuned_not_bad (heval (by simp [hstate])) hstate hnotbad, hq]
      · rw [hbad hsevere hdetune, ← hconfirm]
        exact worsen_of_short (q := q) (by rwa [hconfirm]) _
      · have h := worsened_laws (q := q) (by rwa [hconfirm]) (by simp [hdetuned]) (by decide) (hbad hsevere hdetune)
        rwa [hdetuned, hlast] at h
    · rw [evaluate_severe (heval (by simp [hstate])) hstate, improved_severe]
  · rw [ht, logsOnly_iff]
    simp
  · rw [ht, State.reflDelivered]
    repeat' split
    · exact evaluateReading_ms_of_ne s hd _
    · rfl

/-! ### The tick update and one zone evaluation (R35, R36, R43 to R46) -/

theorem evalZone_of_same {s : State} {m : Module} (h : evaluatedZone s m = (s.te.get m).zone) : s.evalZone m = s := if_pos h

theorem evalZone_of_change {s : State} {m : Module} (h : evaluatedZone s m ≠ (s.te.get m).zone) :
    s.evalZone m = ((s.withTe (s.te.set m { s.te.get m with zone := evaluatedZone s m })).record
      (.zone m (s.te.get m).zone (evaluatedZone s m) (s.boardRef + (s.te.get m).rise) s.stamp)).raise .zone := if_neg h

theorem raised_evalZone {c : NoticeClass} {s : State} (h : raised c s) (m : Module) : raised c (s.evalZone m) := by
  by_cases hzone : evaluatedZone s m = (s.te.get m).zone
  · rwa [evalZone_of_same hzone]
  · rw [evalZone_of_change hzone]
    have hte (x : ThermalEstimator) : raised c (s.withTe x) := h
    exact raised_raise (raised_record (hte _) _) _

theorem raised_zone_evalZone {s : State} {m : Module} (h : evaluatedZone s m ≠ (s.te.get m).zone) :
    raised .zone (s.evalZone m) := by
  rw [evalZone_of_change h]
  exact raised_raise_self _ _

/-- A change of either zone raises ZONE. -/
theorem raised_zone_evalZones {s : State} {m : Module} (h : evaluatedZone s m ≠ (s.te.get m).zone) :
    raised .zone s.evalZones := by
  cases m with
  | a => exact raised_evalZone (raised_zone_evalZone h) .b
  | b =>
    refine raised_zone_evalZone ?_
    rw [evaluatedZone_evalZone_of_ne s (by decide : Module.b ≠ .a), evalZone_get, if_neg (by decide)]
    exact h

/-- The module records of a tick update before the zones are evaluated: the new rises, and both accumulators 0 (R36). -/
def heated (s : State) : ThermalEstimator :=
  { a := { s.te.a with
      rise := cooledRise s.te.a.rise (effectiveHeat s.te.a.heat s.te.b.heat (s.paramNat .kappa)) (s.paramNat .alpha)
        (s.paramNat .beta)
      heat := 0 }
    b := { s.te.b with
      rise := cooledRise s.te.b.rise (effectiveHeat s.te.b.heat s.te.a.heat (s.paramNat .kappa)) (s.paramNat .alpha)
        (s.paramNat .beta)
      heat := 0 } }

theorem thermalTick_eq (s : State) : s.thermalTick = (s.withTe (heated s)).evalZones := rfl

theorem heated_get (s : State) {m n : Module} (h : m ≠ n) : (heated s).get m = { s.te.get m with
    rise := cooledRise (s.te.get m).rise (effectiveHeat (s.te.get m).heat (s.te.get n).heat (s.paramNat .kappa))
      (s.paramNat .alpha) (s.paramNat .beta)
    heat := 0 } := by
  cases m with
  | a => cases n with
    | a => exact absurd rfl h
    | b => rfl
  | b => cases n with
    | a => rfl
    | b => exact absurd rfl h

theorem paramNat_cast {s : State} (h : paramsInRange s) {p : ParamId} (hp : 0 ≤ p.range.1) :
    (s.paramNat p : Int) = s.param p := Int.toNat_of_nonneg (Int.le_trans hp (h.all p).1)

theorem heated_rise {s : State} (hp : paramsInRange s) {m n : Module} (h : m ≠ n) :
    (((heated s).get m).rise : Int) = clamp 0 1023 ((s.te.get m).rise - (s.te.get m).rise * s.param .alpha / 256
      + min 1048575 ((s.te.get m).heat + (s.te.get n).heat * s.param .kappa / 256) * s.param .beta / 65536) := by
  have hα : s.paramNat .alpha ≤ 256 := by
    have hrange := (hp.all .alpha).2
    simp only [ParamId.range] at hrange
    unfold State.paramNat
    omega
  rw [heated_get s h, cooledRise_eq _ _ _ _ _ hα, paramNat_cast hp (by decide), paramNat_cast hp (by decide),
    paramNat_cast hp (by decide)]

/-- Settles O52. -/
theorem tickUpdateCoolsAndHeats : Obligations.TickUpdateCoolsAndHeats := by
  refine ⟨fun s hp hheld hclock howed => ?_, ?_, ?_⟩
  · obtain ⟨u, hu⟩ : ∃ u, u = s.withInHand { s.inHand with tick := { s.inHand.tick with te := false } } := ⟨_, rfl⟩
    have hexec : exec (.tick .deliver [.te]) s = .next (u.withTe (heated s)).evalZones := by
      rw [exec_tick_deliver hheld, State.takeWorks, State.takeWorks, State.takeWork_owed s .te howed hclock, hu]
      rfl
    have hget (m : Module) := evalZones_get (u.withTe (heated s)) m
    have hzone (m : Module) : evaluatedZone (u.withTe (heated s)) m
        = nextZone (s.boardRef + ((heated s).get m).rise) (s.param .warm) (s.param .hot) (s.param .critical)
          (s.param .zoneHysteresis) (s.te.get m).zone := by
      rw [hu]
      cases m <;> rfl
    have hlogs := logsOnly_evalZones (u.withTe (heated s))
    refine ⟨_, hexec, fun m n hmn => ⟨?_, ?_, ?_, fun hchange => ?_⟩, ?_, ?_⟩
    · rw [hget]
      exact heated_rise hp hmn
    · rw [hget]
      cases m <;> rfl
    · rw [hget, hzone]
      rfl
    · refine raised_zone_evalZones (m := m) ?_
      rw [hget] at hchange
      have hsame : ((u.withTe (heated s)).te.get m).zone = (s.te.get m).zone := by cases m <;> rfl
      rwa [hsame]
    · have ha : (u.withTe (heated s)).evalZones.te.a
          = { (heated s).a with zone := evaluatedZone (u.withTe (heated s)) .a } := hget .a
      have hb : (u.withTe (heated s)).evalZones.te.b
          = { (heated s).b with zone := evaluatedZone (u.withTe (heated s)) .b } := hget .b
      rw [ha, hb, hu]
      rfl
    · rw [hu] at hlogs ⊢
      exact hlogs
  · rintro θ warm hot critical hyst z r hwarm hhot hhyst rfl
    exact ⟨fun h => nextZone_at_critical hhyst h z, fun h h' hz => nextZone_at_hot hhyst h h' hz,
      fun h h' hz => nextZone_at_warm hhot hhyst h h' hz, fun h hz => by rw [hz, nextZone_cool hwarm hhot h],
      fun h hz => by rw [hz, nextZone_warm hwarm hhot h], fun h hz => by rw [hz, nextZone_hot hhot h], fun _ hz => by rw [hz, nextZone_critical],
      nextZone_settles hwarm hhot hhyst z⟩
  · rintro m s t θ old new rfl rfl hnew rfl
    obtain rfl : new = evaluatedZone s m := hnew
    refine ⟨evalZone_of_same, fun hchange => ⟨evalZone_get s m, fun hmode => ?_, raised_zone_evalZone hchange,
      logsOnly_evalZone s m⟩⟩
    rw [evalZone_of_change hchange]
    have hkeeps (x : ThermalEstimator) : (s.withTe x).param .logMode = 1 := hmode
    rw [newest_record_raise (hkeeps _)]

end Sys2Proof.Safety
end

section
/-! PROOFS. The tick work of the Supply Allocator and of the Telemetry Intake: the rotation of the window and the ageing of
the observations (R78 to R84, R140, R33). -/
namespace Sys2Proof.Machine

/-! ### The charge state under an evaluation (R82, R84) -/

theorem evalCharge_of_same {s : State}
    (h : nextCharge s.sa.windowSum (s.param .chargeAllowance) s.sa.charge = s.sa.charge) : s.evalCharge = s := if_pos h

theorem evalCharge_of_change {s : State}
    (h : nextCharge s.sa.windowSum (s.param .chargeAllowance) s.sa.charge ≠ s.sa.charge) : s.evalCharge
      = ((s.withSa { s.sa with charge := nextCharge s.sa.windowSum (s.param .chargeAllowance) s.sa.charge }).record
        (.charge s.sa.charge (nextCharge s.sa.windowSum (s.param .chargeAllowance) s.sa.charge) s.sa.windowSum s.stamp)).raise
          .charge := if_neg h

/-- A window at or below the allowance less its eighth, rounded down, releases a cap; one above the allowance caps (R82). -/
theorem nextCharge_laws {sum allowance eighth : Int} (h : 8 * eighth ≤ allowance) (h' : allowance < 8 * eighth + 8) :
    (nextCharge sum allowance .ok = .capped ↔ allowance < sum)
      ∧ (nextCharge sum allowance .capped = .ok ↔ sum ≤ allowance - eighth) := by
  obtain rfl : eighth = allowance / 8 := by omega
  simp [nextCharge]

/-! ### The ageing of observations (R140) -/

/-- An observation one tick older. -/
def Observation.older (o : Observation) : Observation := { value := o.value, fresh := o.fresh - 1, saturated := o.saturated }

/-- The STALE records of the kinds of a list that go stale. -/
def staleRecords (ks : List ObsKind) (s : State) : List Record :=
  (ks.filter fun j => (s.obsOf j).fresh == 1).map fun j => .stale true j s.stamp

theorem obsOf_congr {s t : State} (h : t.ti = s.ti) (k : ObsKind) : t.obsOf k = s.obsOf k := by
  rw [State.obsOf, State.obsOf, h]

theorem setObs_same (s : State) (k : ObsKind) : s.setObs k (s.obsOf k) = s := by
  simp [State.setObs, State.obsOf, get_eq_getElem, State.withTi]

end Sys2Proof.Machine

namespace Sys2Proof.Safety

open Sys2Proof.Machine

theorem logsOnly.withTe {s t : State} (h : logsOnly s t) (x : ThermalEstimator) : logsOnly (s.withTe x) (t.withTe x) := by
  rw [logsOnly] at h ⊢
  rw [h]
  rfl

/-- Work that makes each kind of a list one tick older, writes a STALE record for each one that goes stale, in list order,
raises the class with it, and does no more. -/
structure AgesKinds (ks : List ObsKind) (s t : State) : Prop where
  obs : ∀ j, t.obsOf j = if j ∈ ks then (s.obsOf j).older else s.obsOf j
  map : t.ti.map = s.ti.map
  appends : Appends s t (staleRecords ks s)
  raised : (∃ j ∈ ks, (s.obsOf j).fresh = 1) → raised .stale t
  keepsRaised : Safety.raised .stale s → Safety.raised .stale t
  stands : (∀ j ∈ ks, (s.obsOf j).fresh ≠ 1) → t = s.withTi t.ti
  logs : logsOnly (s.withTi t.ti) t

theorem AgesKinds.trans {ks ls : List ObsKind} {s t u : State} (hst : AgesKinds ks s t) (htu : AgesKinds ls t u)
    (hdisjoint : ∀ k ∈ ks, k ∉ ls) : AgesKinds (ks ++ ls) s u := by
  have hsecond (j : ObsKind) (hj : j ∈ ls) : t.obsOf j = s.obsOf j := by
    rw [hst.obs, if_neg fun h => hdisjoint j h hj]
  have hrecords : staleRecords (ks ++ ls) s = staleRecords ks s ++ staleRecords ls t := by
    have hfilter : (ls.filter fun j => (t.obsOf j).fresh == 1) = ls.filter fun j => (s.obsOf j).fresh == 1 :=
      List.filter_congr fun j hj => by rw [hsecond j hj]
    simp only [staleRecords, hfilter, hst.appends.stamp, List.filter_append, List.map_append]
  refine ⟨fun j => ?_, htu.map.trans hst.map, hrecords ▸ hst.appends.trans htu.appends, ?_,
    fun h => htu.keepsRaised (hst.keepsRaised h), fun hnone => ?_, ?_⟩
  · rw [htu.obs, hst.obs]
    simp only [List.mem_append]
    by_cases hj : j ∈ ks
    · simp [hj, hdisjoint j hj]
    · simp [hj]
  · rintro ⟨j, hj, hfresh⟩
    rcases List.mem_append.1 hj with hj | hj
    · exact htu.keepsRaised (hst.raised ⟨j, hj, hfresh⟩)
    · exact htu.raised ⟨j, hj, by rwa [hsecond j hj]⟩
  · have ht := hst.stands fun j hj => hnone j (List.mem_append_left _ hj)
    have hu := htu.stands fun j hj => by rw [hsecond j hj]; exact hnone j (List.mem_append_right _ hj)
    rw [hu, ht]
    rfl
  · have ht := hst.logs
    rw [logsOnly] at ht
    refine logsOnly.trans ?_ htu.logs
    rw [logsOnly, ht]
    rfl

theorem setObs_obsOf (s : State) (k j : ObsKind) (o : Observation) :
    (s.setObs k o).obsOf j = if j = k then o else s.obsOf j := by
  split
  · rename_i h
    rw [h, State.setObs_obsOf_self]
  · rename_i h
    have hplace : (obsIndex k).val ≠ (obsIndex j).val := fun e => h (obsIndex_injective (Fin.ext e)).symm
    simp [State.setObs, State.obsOf, get_eq_getElem, Vector.getElem_set_ne _ _ hplace]

theorem ageKind_ages (s : State) (k : ObsKind) : AgesKinds [k] s (s.ageKind k) := by
  obtain ⟨u, hu⟩ : ∃ u, u = s.setObs k (s.obsOf k).older := ⟨_, rfl⟩
  have hobs (j : ObsKind) : u.obsOf j = if j ∈ [k] then (s.obsOf j).older else s.obsOf j := by
    rw [hu, setObs_obsOf]
    by_cases hj : j = k <;> simp [hj]
  have hset : Appends s u [] := hu ▸ .of_ol rfl rfl rfl
  have hmap : u.ti.map = s.ti.map := hu ▸ rfl
  have hwith : u = s.withTi u.ti := hu ▸ rfl
  have hkeeps (h : raised .stale s) : raised .stale u := hu ▸ h
  have hwork : s.ageKind k = if (s.obsOf k).fresh = 1 then (u.record (.stale true k s.stamp)).raise .stale else u := by
    simp only [State.ageKind]
    by_cases hzero : (s.obsOf k).fresh = 0
    · have holder : (s.obsOf k).older = s.obsOf k := by
        rw [Observation.older, hzero]
        exact congrArg (fun n => ({ value := _, fresh := n, saturated := _ } : Observation)) hzero.symm
      rw [if_pos hzero, if_neg (by omega), hu, holder, setObs_same]
    · rw [if_neg hzero, hu]
      rfl
  clear hu
  rw [hwork]
  split
  · rename_i hfresh
    have hti : ((u.record (.stale true k s.stamp)).raise .stale).ti = u.ti := by simp
    refine ⟨fun j => (obsOf_congr hti j).trans (hobs j), by rw [hti, hmap], ?_, fun _ => raised_raise_self _ _,
      fun h => raised_raise (raised_record (hkeeps h) _) _, fun hnone => absurd hfresh (hnone k (List.mem_singleton_self k)), ?_⟩
    · rw [show staleRecords [k] s = [] ++ [.stale true k s.stamp] by simp [staleRecords, hfresh]]
      exact (hset.trans (.record u _)).raise .stale
    · rw [hti, ← hwith]
      exact (logsOnly_record u _).trans (logsOnly_raise _ _)
  · rename_i hfresh
    refine ⟨hobs, hmap, ?_, ?_, hkeeps, fun _ => hwith, hwith ▸ rfl⟩
    · rw [show staleRecords [k] s = [] by simp [staleRecords, hfresh]]
      exact hset
    · rintro ⟨j, hj, h⟩
      obtain rfl := List.mem_singleton.1 hj
      exact absurd h hfresh

theorem ageKinds_ages {ks : List ObsKind} (h : ks.Nodup) (s : State) : AgesKinds ks s (State.ageKinds ks s) := by
  induction ks generalizing s with
  | nil => exact ⟨fun j => by simp [State.ageKinds], rfl, .of_ol rfl rfl rfl, by simp, id, fun _ => rfl, rfl⟩
  | cons k ks ih =>
    obtain ⟨hk, hks⟩ := List.nodup_cons.1 h
    exact (ageKind_ages s k).trans (ih hks _) (by simpa using hk)

theorem mem_obsAll (k : ObsKind) : k ∈ obsAll := by
  match k with
  | .dieA | .dieB | .board | .battV => decide
  | .fwd 0 | .fwd 1 | .fwd 2 | .fwd 3 => decide
  | .refl 0 | .refl 1 | .refl 2 | .refl 3 => decide

/-- One zone evaluation hands over one ZONE record or none (R46). -/
theorem evalZone_appends (s : State) (m : Module) : ∃ zones, Appends s (s.evalZone m) zones ∧ zones.length ≤ 1
    ∧ ∀ x ∈ zones, ∃ old new, x = .zone m old new (s.thetaEst m) s.stamp := by
  by_cases h : evaluatedZone s m = (s.te.get m).zone
  · rw [evalZone_of_same h]
    exact ⟨[], .of_ol rfl rfl rfl, by simp, by simp⟩
  · rw [evalZone_of_change h]
    have hset (x : ThermalEstimator) : Appends s (s.withTe x) [] := .of_ol rfl rfl rfl
    exact ⟨_, ((hset _).trans (.record _ _)).raise .zone, by simp, fun x hx => ⟨_, _, List.mem_singleton.1 hx⟩⟩

theorem evalZones_appends (s : State) : ∃ zones, Appends s s.evalZones zones ∧ recordsLength zones ≤ 12
    ∧ ∀ x ∈ zones, ∃ m old new, x = .zone m old new (s.evalZones.thetaEst m) s.stamp := by
  have hθ (m : Module) : s.evalZones.thetaEst m = s.thetaEst m := by
    rw [State.thetaEst, State.thetaEst, evalZones_get, State.evalZones, boardRef_evalZone, boardRef_evalZone]
  have hθb : (s.evalZone .a).thetaEst .b = s.thetaEst .b := by
    rw [State.thetaEst, State.thetaEst, evalZone_get, boardRef_evalZone]
  obtain ⟨za, ha, hla, hza⟩ := evalZone_appends s .a
  obtain ⟨zb, hb, hlb, hzb⟩ := evalZone_appends (s.evalZone .a) .b
  have hform : ∀ x ∈ za ++ zb, ∃ m old new, x = .zone m old new (s.evalZones.thetaEst m) s.stamp := by
    intro x hx
    rcases List.mem_append.1 hx with hx | hx
    · obtain ⟨old, new, h⟩ := hza x hx
      exact ⟨.a, old, new, by rw [h, hθ]⟩
    · obtain ⟨old, new, h⟩ := hzb x hx
      exact ⟨.b, old, new, by rw [h, hθ, hθb, ha.stamp]⟩
  refine ⟨za ++ zb, ha.trans hb, ?_, hform⟩
  have hle := recordsLength_le (l := za ++ zb) fun x hx => by
    obtain ⟨m, old, new, rfl⟩ := hform x hx
    simp [Record.length]
  rw [List.length_append] at hle
  omega

/-! ### The rows of the Supply Allocator and of the Telemetry Intake (R78 to R84, R140) -/

/-- The allocator's state at a rotation, before the charge state is evaluated (R78, R79). -/
def rotated (s : State) : State := s.withSa { s.sa with
  buckets := rotateBuckets s.sa.buckets
  windowSum := s.sa.windowSum - s.sa.buckets.get 0
  counter := s.paramNat .windowTicks }

theorem rotate_eq (s : State) : s.rotate = (rotated s).evalCharge := rfl

theorem evalCharge_laws (s : State) :
    (s.evalCharge.sa.charge ≠ s.sa.charge → raised .charge s.evalCharge
      ∧ (s.param .logMode = 1 → newest s.evalCharge
          = some (.charge s.sa.charge s.evalCharge.sa.charge s.evalCharge.sa.windowSum s.stamp)))
    ∧ (s.evalCharge.sa.charge = s.sa.charge → s.evalCharge = s) ∧ logsOnly (s.withSa s.evalCharge.sa) s.evalCharge := by
  have hcharge : s.evalCharge.sa.charge = nextCharge s.sa.windowSum (s.param .chargeAllowance) s.sa.charge := by
    rw [State.evalCharge_sa]
  have hsum : s.evalCharge.sa.windowSum = s.sa.windowSum := by rw [State.evalCharge_sa]
  have hkeeps (x : SupplyAllocator) (h : s.param .logMode = 1) : (s.withSa x).param .logMode = 1 := h
  refine ⟨fun h => ?_, fun h => evalCharge_of_same (hcharge ▸ h), ?_⟩
  · rw [hcharge] at h
    rw [hcharge, hsum, evalCharge_of_change h]
    exact ⟨raised_raise_self _ _, fun hmode => newest_record_raise (hkeeps _ hmode) _ _⟩
  · rw [logsOnly_iff]
    simp

theorem takeWork_sa {s : State} (howed : s.inHand.tick.sa = true) (hclock : s.pins.refclkAbsent = false) :
    s.takeWork .sa = (s.withInHand { s.inHand with tick := { s.inHand.tick with sa := false } }).tickSa :=
  s.takeWork_owed .sa howed hclock

theorem exec_windowRotation (s : State) :
    exec .windowRotation s = .next (if s.sa.counter ≤ 1 then s.takeWork .sa else s) := rfl

theorem exec_observationStale (k : ObsKind) (s : State) :
    exec (.observationStale k) s = .next (if (s.settleIntake.obsOf k).fresh = 1 then s.takeWork .ti else s) := rfl

theorem exec_tick_block {s : State} (hheld : s.held = false) (b : TickBlock) :
    exec (.tick .deliver [b]) s = .next (s.takeWork b) := exec_tick_deliver hheld [b]

/-- A rotation, as the row brings it about. -/
theorem windowRotation_laws {s u : State} (hu : u = s.withInHand { s.inHand with tick := { s.inHand.tick with sa := false } }) :
    (∀ i : Fin 15, u.rotate.sa.buckets.get ⟨i.val, by omega⟩ = s.sa.buckets.get ⟨i.val + 1, by omega⟩)
      ∧ u.rotate.sa.buckets.get 15 = 0 ∧ u.rotate.sa.windowSum = s.sa.windowSum - s.sa.buckets.get 0
      ∧ u.rotate.sa.counter = s.paramNat .windowTicks
      ∧ u.rotate.sa.charge = nextCharge (s.sa.windowSum - s.sa.buckets.get 0 : Nat) (s.param .chargeAllowance) s.sa.charge
      ∧ (u.rotate.sa.charge ≠ s.sa.charge → raised .charge u.rotate)
      ∧ (u.rotate.sa.charge ≠ s.sa.charge → s.param .logMode = 1 →
          newest u.rotate = some (.charge s.sa.charge u.rotate.sa.charge u.rotate.sa.windowSum s.stamp))
      ∧ (u.rotate.sa.charge = s.sa.charge → u.rotate.ol = s.ol ∧ u.rotate.nu = s.nu ∧ u.rotate.li = s.li)
      ∧ logsOnly { s with sa := u.rotate.sa, inHand := { s.inHand with tick := { s.inHand.tick with sa := false } } } u.rotate := by
  obtain ⟨hchange, hsame, hlogs⟩ := evalCharge_laws (rotated u)
  have hsa := State.evalCharge_sa (rotated u)
  rw [← rotate_eq] at hchange hsame hlogs hsa
  have hold : (rotated u).sa.charge = s.sa.charge := by rw [hu]; rfl
  have hmode : (rotated u).param .logMode = s.param .logMode := by rw [hu]; rfl
  have hstamp : (rotated u).stamp = s.stamp := by rw [hu]; rfl
  rw [hold] at hchange hsame
  refine ⟨fun i => ?_, ?_, ?_, ?_, ?_, fun h => (hchange h).1, fun h hlog => ?_, fun h => ?_, ?_⟩
  · rw [hsa, hu]
    exact rotateBuckets_get s.sa.buckets i
  · rw [hsa, hu]
    rfl
  · rw [hsa, hu]
    rfl
  · rw [hsa, hu]
    rfl
  · rw [hsa, hu]
    rfl
  · rw [(hchange h).2 (hmode.trans hlog), hstamp]
  · rw [hsame h, hu]
    exact ⟨rfl, rfl, rfl⟩
  · rw [hu] at hlogs ⊢
    exact hlogs

/-- An observation in the words of O54. -/
theorem older_eq (o : Observation) :
    o.older = { value := o.value, fresh := o.fresh - 1, saturated := o.saturated } := rfl

/-- TI's tick work with no frame in hand: the ageing, and the zones when BOARD goes stale (R140, R33). -/
theorem takeWork_ti {s : State} (howed : s.inHand.tick.ti = true) (hclock : s.pins.refclkAbsent = false)
    (hintake : s.inHand.intake = none) : ∃ a, AgesKinds obsAll (s.withInHand { s.inHand with
        tick := { s.inHand.tick with ti := false } }) a ∧ a.te = s.te
      ∧ s.takeWork .ti = if (s.obsOf .board).fresh = 1 then a.evalZones else a := by
  obtain ⟨u, hu⟩ : ∃ u, u = s.withInHand { s.inHand with tick := { s.inHand.tick with ti := false } } := ⟨_, rfl⟩
  have hsettle : u.settleIntake = u := State.settleIntake_none u (by rw [hu]; exact hintake)
  have hwork : s.takeWork .ti = u.tickTi := by
    rw [hu]
    exact s.takeWork_owed .ti howed hclock
  have hboard : u.obsOf .board = s.obsOf .board := by rw [hu]; rfl
  have hte : u.te = s.te := by rw [hu]; rfl
  rw [← hu, hwork]
  refine ⟨_, ageKinds_ages (by decide) u, by rw [State.ageKinds_te, hte], ?_⟩
  simp only [State.tickTi, hsettle, hboard]

theorem evalZones_ti (s : State) : s.evalZones.ti = s.ti := by
  simp [State.evalZones]

theorem staleRecords_length (s : State) : recordsLength (staleRecords obsAll s) ≤ 72 := by
  have hlength : (staleRecords obsAll s).length ≤ 12 := by
    rw [staleRecords, List.length_map]
    exact List.length_filter_le _ _
  have hle := recordsLength_le (l := staleRecords obsAll s) fun r hr => by
    obtain ⟨j, -, rfl⟩ := List.mem_map.1 hr
    simp [Record.length]
  omega

/-- A BOARD that goes stale gives way to the fallback, and both zones are evaluated with it (R33). -/
theorem AgesKinds.board_stale {s u a : State} (h : AgesKinds obsAll u a) (hu : u = s.withInHand { s.inHand with
      tick := { s.inHand.tick with ti := false } }) (hte : a.te = s.te) (hfresh : (s.obsOf .board).fresh = 1) :
    a.evalZones.boardRef = s.param .boardFallback ∧ ∀ m : Module, (a.evalZones.te.get m).zone
      = nextZone (s.param .boardFallback + (s.te.get m).rise) (s.param .warm) (s.param .hot) (s.param .critical)
        (s.param .zoneHysteresis) (s.te.get m).zone := by
  have hparam (p : ParamId) : a.param p = s.param p := (param_congr h.appends.rh p).trans (by rw [hu]; rfl)
  have hzero : (a.obsOf .board).fresh = 0 := by
    rw [h.obs, if_pos (mem_obsAll _), Observation.older, hu]
    exact congrArg (· - 1) hfresh
  have href : a.boardRef = s.param .boardFallback := by
    rw [State.boardRef, if_neg (by simp [State.isFresh, hzero]), hparam]
  refine ⟨by rw [State.evalZones, boardRef_evalZone, boardRef_evalZone, href], fun m => ?_⟩
  rw [evalZones_get, evaluatedZone, href, hte]
  simp only [hparam]

/-- Settles O54. -/
theorem windowAndIntakeRowsTakeTheirTickWork : Obligations.WindowAndIntakeRowsTakeTheirTickWork := by
  refine ⟨fun _ _ _ => nextCharge_laws, fun k s => ⟨fun hnone => ?_, fun hnone => ?_, fun howed hclock hend => ?_,
    fun hheld howed hclock => ⟨fun hrun => ?_, fun hend => ?_⟩, fun hheld howed hclock hintake => ⟨fun hfresh => ?_,
    fun hnone => ?_⟩, fun howed hclock hintake hfresh => ?_⟩⟩
  · have hstands : s.takeWork .sa = s := hnone.elim (s.takeWork_done .sa) (s.takeWork_absent .sa)
    rw [exec_windowRotation, hstands, ite_self]
  · have hstands : s.takeWork .ti = s := hnone.elim (s.takeWork_done .ti) (s.takeWork_absent .ti)
    rw [exec_observationStale, hstands, ite_self]
  · refine ⟨_, ?_, windowRotation_laws rfl⟩
    rw [exec_windowRotation, if_pos hend, takeWork_sa howed hclock]
    exact congrArg _ (if_pos hend)
  · rw [exec_tick_block hheld, takeWork_sa howed hclock]
    exact congrArg _ (if_neg (by simp only [State.withInHand_sa]; omega))
  · rw [exec_tick_block hheld, exec_windowRotation, if_pos hend]
  · rw [exec_tick_block hheld, exec_observationStale, State.settleIntake_none s hintake, if_pos hfresh]
  · obtain ⟨a, hages, -, hwork⟩ := takeWork_ti howed hclock hintake
    rw [if_neg (hnone .board)] at hwork
    have hstands := hages.stands fun j _ => hnone j
    refine ⟨a, by rw [exec_tick_block hheld, hwork], fun j => (hages.obs j).trans (if_pos (mem_obsAll j)), hstands.trans ?_⟩
    have hti : a.ti = { s.ti with obs := a.ti.obs } :=
      congrArg (fun x => ({ map := x, obs := a.ti.obs } : TelemetryIntake)) hages.map
    exact congrArg (fun x => { s with
      ti := x, inHand := { s.inHand with tick := { s.inHand.tick with ti := false } } }) hti
  · obtain ⟨a, hages, hte, hwork⟩ := takeWork_ti howed hclock hintake
    have hexec : exec (.observationStale k) s = .next (s.takeWork .ti) := by
      rw [exec_observationStale, State.settleIntake_none s hintake, if_pos hfresh]
    have hboard := hages.board_stale rfl hte
    have hget (j : ObsKind) : a.obsOf j = (s.obsOf j).older := (hages.obs j).trans (if_pos (mem_obsAll j))
    have hraised := hages.raised ⟨k, mem_obsAll k, hfresh⟩
    rw [hexec, hwork]
    refine ⟨_, rfl, fun j => ?_, ?_, ?_, fun hsound hmode => ?_, fun m => ?_, fun _ hnot => ?_, fun hk => ?_, ?_⟩
    · rw [apply_ite (State.obsOf · j), obsOf_congr (evalZones_ti a), ite_self]
      exact hget j
    · repeat' split
      · exact raised_evalZone (raised_evalZone hraised .a) .b
      · exact hraised
    · rw [apply_ite State.ti, evalZones_ti, ite_self]
      exact hages.map
    · obtain ⟨zones, hzones, hlength, hform⟩ := evalZones_appends a
      have hstales : recordsLength (staleRecords obsAll s) ≤ 72 := staleRecords_length s
      repeat' split
      · obtain ⟨kept, hkept, hstore⟩ := (hages.appends.trans hzones).store hsound hmode (by
          rw [recordsLength_append]
          exact Nat.le_trans (Nat.add_le_add hstales hlength) (by decide))
        refine ⟨kept, zones, hkept, hstore.trans (List.append_assoc ..).symm, fun x hx => ?_⟩
        have hstamp : a.stamp = s.stamp := hages.appends.stamp
        rw [← hstamp]
        exact hform x hx
      · obtain ⟨kept, hkept, hstore⟩ := hages.appends.store hsound hmode (Nat.le_trans hstales (by decide))
        exact ⟨kept, [], hkept, hstore.trans (List.append_nil _).symm, by simp⟩
    · repeat' split
      · rw [evalZones_get, hte]
        exact ⟨rfl, rfl⟩
      · rw [hte]
        exact ⟨rfl, rfl⟩
    · rw [if_neg hnot, hte]
    · rw [hk] at hfresh
      rw [if_pos hfresh]
      exact hboard hfresh
    · have hlogs := hages.logs
      repeat' split
      · rw [evalZones_ti]
        exact (hlogs.withTe _).trans (logsOnly_evalZones a)
      · rw [hte]
        exact hlogs

end Sys2Proof.Safety
end

section
/-! PROOFS. The standby writes: CHAIN WRITE, RULE WRITE and HEADER WRITE (R115 to R117). -/

namespace Sys2Proof.Machine

/-! ### The words of a standby write (R115 to R117) -/

theorem arg_drop (args : List Word) (j k : Nat) : arg (args.drop j) k = arg args (j + k) := by
  simp [arg]

theorem codesGood_iff (select : Word) (f : List Word) (tests : List (Nat × (Nat → Bool))) :
    codesGood select f tests = true ↔ ∀ t ∈ tests, bit select t.1 = true → t.2 (arg f t.1).toNat = true := by
  simp only [codesGood, selected, List.all_eq_true, Bool.or_eq_true, Bool.not_eq_true']
  refine forall_congr' fun t => forall_congr' fun _ => ?_
  cases bit select t.1 with
  | false => simp only [Bool.false_eq_true, true_or, false_implies]
  | true => simp only [Bool.true_eq_false, false_or, true_implies]

theorem codesGood_chain_iff (select : Word) (f : List Word) : codesGood select f chainTests = true ↔
    (bit select 0 = true → (arg f 0).toNat ≤ 1) ∧ (bit select 1 = true → (arg f 1).toNat ≤ 1)
      ∧ (bit select 6 = true → (arg f 6).toNat ≤ 16) ∧ (bit select 7 = true → (arg f 7).toNat ≤ 16)
      ∧ (bit select 8 = true → (arg f 8).toNat ≤ 16) := by
  simp [codesGood_iff, chainTests, twoCodes, curveCode]

theorem codesGood_rule_iff (select : Word) (f : List Word) : codesGood select f ruleTests = true ↔
    (bit select 0 = true → (arg f 0).toNat ≤ 1) ∧ (bit select 6 = true → (arg f 6).toNat ≤ 2)
      ∧ (bit select 7 = true → (arg f 7).toNat < 16 ∨ (arg f 7).toNat = 17)
      ∧ (bit select 9 = true → (arg f 9).toNat ≤ 2) ∧ (bit select 10 = true → (arg f 10).toNat ≤ 1) := by
  simp [codesGood_iff, ruleTests, twoCodes, threeCodes, ceilingCode]

theorem codesGood_header_iff (select : Word) (f : List Word) : codesGood select f headerTests = true ↔
    (bit select 0 = true → (arg f 0).toNat ≤ 16) ∧ (bit select 1 = true → (arg f 1).toNat < 16 ∨ (arg f 1).toNat = 17)
      ∧ (bit select 3 = true → (arg f 3).toNat ≤ 2) := by
  simp [codesGood_iff, headerTests, threeCodes, curveCode, ceilingCode]

/-- A flag word is 1 or 0. -/
theorem bit_zero_eq_decide {w : Word} (h : w.toNat ≤ 1) : bit w 0 = decide (w = 1) := by
  have hw : w = 0 ∨ w = 1 := by
    rcases Nat.le_one_iff_eq_zero_or_eq_one.1 h with h | h
    · exact .inl (BitVec.eq_of_toNat_eq h)
    · exact .inr (BitVec.eq_of_toNat_eq h)
  rcases hw with rfl | rfl <;> decide

theorem pick_eq {α : Type} (select : Word) (k : Nat) (carried kept : α) :
    pick select k carried kept = if bit select k then carried else kept := rfl

theorem clampedField_iff (select : Word) (k : Nat) (lo hi v : Int) :
    clampedField select k lo hi v = true ↔ bit select k = true ∧ clamp lo hi v ≠ v := by
  simp [clampedField, selected]

theorem clamp_backoff (n : Nat) : clamp 0 63 n = min 63 (n : Int) := by
  unfold clamp
  (repeat' split) <;> omega

theorem zeroForm_iff (low : BitVec 10) : zeroForm low = true ↔ low.toNat / 256 = 1 := by
  simp [zeroForm]

theorem min_ne_left_iff (a b : Int) : ¬min a b = a ↔ b < a := by
  omega

/-- Which values a CHAIN WRITE changes: the three clamped fields, and a floor above the rated max (R117). -/
theorem descriptorClamped_iff (base : Descriptor) (select : Word) (f : List Word) :
    descriptorClamped base select f = true ↔
      (bit select 3 = true ∧ clamp (-200) 140 (arg f 3).toInt ≠ (arg f 3).toInt)
        ∨ (bit select 4 = true ∧ clamp (-200) 140 (arg f 4).toInt ≠ (arg f 4).toInt)
        ∨ (bit select 5 = true ∧ clamp 1 32 (arg f 5).toNat ≠ (arg f 5).toNat)
        ∨ (writeDescriptor base select f).rated < (writeDescriptor base select f).floor := by
  simp only [descriptorClamped, Bool.or_eq_true, clampedField_iff, Descriptor.holdFloor, bne_iff_ne, ne_eq, min_ne_left_iff,
    or_assoc]

/-! The records written, with each carried word named by its place in the request. -/

theorem writeDescriptor_args (base : Descriptor) (select : Word) (args : List Word) :
    writeDescriptor base select (args.drop 2) =
      { present := pick select 0 (bit (arg args 2) 0) base.present
        module := pick select 1 (if bit (arg args 3) 0 then .b else .a) base.module
        priority := pick select 2 (bits (arg args 4) 0 2) base.priority
        rated := pick select 3 (clamp (-200) 140 (arg args 5).toInt) base.rated
        floor := pick select 4 (clamp (-200) 140 (arg args 6).toInt) base.floor
        rise := pick select 5 (clamp 1 32 (arg args 7).toNat) base.rise
        ceiling := pick select 6 (CurveRef.ofCode (arg args 8).toNat) base.ceiling
        heat := pick select 7 (CurveRef.ofCode (arg args 9).toNat) base.heat
        current := pick select 8 (CurveRef.ofCode (arg args 10).toNat) base.current } := by
  simp only [writeDescriptor, arg_drop]

theorem writeRule_args (base : Rule) (select : Word) (args : List Word) :
    writeRule base select (args.drop 2) =
      { valid := pick select 0 (bit (arg args 2) 0) base.valid
        chains := pick select 1 ((arg args 3).setWidth 4) base.chains
        bands := pick select 2 (arg args 4) base.bands
        waveforms := pick select 3 ((arg args 5).setWidth 4) base.waveforms
        zones := pick select 4 ((arg args 6).setWidth 4) base.zones
        mismatches := pick select 5 ((arg args 7).setWidth 3) base.mismatches
        anchor := pick select 6 (AnchorMatch.ofCode (arg args 8).toNat) base.anchor
        ceiling := pick select 7 (CeilingRef.ofCode (arg args 9).toNat) base.ceiling
        backoff := pick select 8 (min 63 ((arg args 10).toNat : Int)) base.backoff
        shed := pick select 9 (ShedPolicy.ofCode (arg args 11).toNat) base.shed
        logAlways := pick select 10 (bit (arg args 12) 0) base.logAlways } := by
  simp only [writeRule, arg_drop, BitVec.ofNat_toNat, clamp_backoff]

theorem writeHeader_args (base : Header) (select : Word) (args : List Word) :
    writeHeader base select (args.drop 1) =
      { supply := pick select 0 (CurveRef.ofCode (arg args 1).toNat) base.supply
        ceiling := pick select 1 (CeilingRef.ofCode (arg args 2).toNat) base.ceiling
        backoff := pick select 2 (min 63 ((arg args 3).toNat : Int)) base.backoff
        shed := pick select 3 (ShedPolicy.ofCode (arg args 4).toNat) base.shed } := by
  simp only [writeHeader, arg_drop, clamp_backoff]

/-- A picked flag word is read as 1 or not, once its code is known good. -/
theorem pick_flag {select w : Word} {k : Nat} (h : bit select k = true → w.toNat ≤ 1) (kept : Bool) :
    pick select k (bit w 0) kept = if bit select k then decide (w = 1) else kept :=
  ite_congr rfl (fun hk => bit_zero_eq_decide (h hk)) fun _ => rfl

/-- A backoff word is clamped when it is above 63, where it is selected. -/
theorem clampedField_backoff_iff (select : Word) (k n : Nat) :
    clampedField select k 0 63 n = true ↔ bit select k = true ∧ 63 < n := by
  rw [clampedField_iff, clamp_backoff]
  exact and_congr_right fun _ => by omega

/-! ### The effects of the standby writes with no flip pending -/

section
variable {low : BitVec 10} {args : List Word} {s : State} (hflip : s.cb.flip = none)
include hflip

theorem chainWriteEffect_refused (h : 4 ≤ (arg args 0).toNat ∨ codesGood (arg args 1) (args.drop 2) chainTests = false) :
    chainWriteEffect low args s = (s, refuse .range) := by
  simp only [chainWriteEffect, hflip, Option.isSome_none, Bool.false_eq_true, if_false]
  by_cases hchain : (arg args 0).toNat < 4
  · rw [dif_pos hchain, if_pos (h.resolve_left (by omega))]
  · rw [dif_neg hchain]

theorem chainWriteEffect_write (hchain : (arg args 0).toNat < 4)
    (hcodes : codesGood (arg args 1) (args.drop 2) chainTests = true) {base : Descriptor} {d : Descriptor}
    (hbase : base = if low.toNat / 256 = 1 then Descriptor.empty else s.cb.standbyBank.descriptor ⟨(arg args 0).toNat, hchain⟩)
    (hd : d = (writeDescriptor base (arg args 1) (args.drop 2)).holdFloor) :
    chainWriteEffect low args s
      = (s.setStandbyBank { s.cb.standbyBank with chains := s.cb.standbyBank.chains.set (arg args 0).toNat d hchain },
        done (descriptorClamped base (arg args 1) (args.drop 2)) (arg args 0 :: d.packed)) := by
  simp only [← zeroForm_iff] at hbase
  subst hd hbase
  simp only [chainWriteEffect, hflip, Option.isSome_none, Bool.false_eq_true, if_false, hchain, dite_true, hcodes,
    Bool.true_eq_false]

theorem ruleWriteEffect_refused (h : 32 ≤ (arg args 0).toNat ∨ codesGood (arg args 1) (args.drop 2) ruleTests = false) :
    ruleWriteEffect low args s = (s, refuse .range) := by
  simp only [ruleWriteEffect, hflip, Option.isSome_none, Bool.false_eq_true, if_false]
  by_cases hrule : (arg args 0).toNat < 32
  · rw [dif_pos hrule, if_pos (h.resolve_left (by omega))]
  · rw [dif_neg hrule]

theorem ruleWriteEffect_write (hrule : (arg args 0).toNat < 32)
    (hcodes : codesGood (arg args 1) (args.drop 2) ruleTests = true) {base : Rule} {d : Rule}
    (hbase : base = if low.toNat / 256 = 1 then Rule.empty else s.cb.standbyBank.rules.get ⟨(arg args 0).toNat, hrule⟩)
    (hd : d = writeRule base (arg args 1) (args.drop 2)) :
    ruleWriteEffect low args s
      = (s.setStandbyBank { s.cb.standbyBank with rules := s.cb.standbyBank.rules.set (arg args 0).toNat d hrule },
        done (clampedField (arg args 1) 8 0 63 (arg (args.drop 2) 8).toNat) (arg args 0 :: d.packed)) := by
  simp only [← zeroForm_iff] at hbase
  subst hd hbase
  simp only [ruleWriteEffect, hflip, Option.isSome_none, Bool.false_eq_true, if_false, hrule, dite_true, hcodes,
    Bool.true_eq_false]

theorem headerWriteEffect_refused (h : codesGood (arg args 0) (args.drop 1) headerTests = false) :
    headerWriteEffect low args s = (s, refuse .range) := by
  simp only [headerWriteEffect, hflip, Option.isSome_none, Bool.false_eq_true, if_false, h, if_true]

theorem headerWriteEffect_write (hcodes : codesGood (arg args 0) (args.drop 1) headerTests = true) {base : Header} {d : Header}
    (hbase : base = if low.toNat / 256 = 1 then Header.empty else s.cb.standbyBank.header)
    (hd : d = writeHeader base (arg args 0) (args.drop 1)) :
    headerWriteEffect low args s = (s.setStandbyBank { s.cb.standbyBank with header := d },
        done (clampedField (arg args 0) 2 0 63 (arg (args.drop 1) 2).toNat) (0 :: d.packed)) := by
  simp only [← zeroForm_iff] at hbase
  subst hd hbase
  simp only [headerWriteEffect, hflip, Option.isSome_none, Bool.false_eq_true, if_false, hcodes, Bool.true_eq_false]

end

theorem curveRef_ofCode_slot (n : Fin 16) : CurveRef.ofCode n.val = .slot n := dif_pos n.isLt

theorem ceilingRef_ofCode_slot (n : Fin 16) : CeilingRef.ofCode n.val = .slot n := dif_pos n.isLt

theorem rules_set_get (rs : Vector Rule 32) {n : Nat} (h : n < 32) (d : Rule) (m : Fin 32) :
    (rs.set n d h).get m = if m.val = n then d else rs.get m := by
  split
  · rename_i hm
    simp [get_eq_getElem, hm]
  · rename_i hm
    simp [get_eq_getElem, Vector.getElem_set_ne _ _ (Ne.symm hm)]

end Sys2Proof.Machine

namespace Sys2Proof.Safety

open Sys2Proof.Machine

theorem done_status (clamped : Bool) (ws : List Word) :
    (done clamped ws).status = if clamped = true then .clamped else .ok := rfl

/-- Settles O35: the fields one by one, each picked by its bit of the field-select word. -/
theorem chainWriteChangesOneDescriptor : Obligations.ChainWriteChangesOneDescriptor := by
  refine ⟨fun r s ht hflip => ⟨fun hrange => exec_row (t := s) (reply := refuse .range) rfl ht
    (chainWriteEffect_refused (s := heard s) hflip hrange), fun hchain base sel hsel hcodes hbase => ?_⟩, codesGood_chain_iff,
    curveRef_ofCode_slot, rfl⟩
  subst hsel
  obtain ⟨hpresent, hmodule, -⟩ := (codesGood_chain_iff _ _).1 hcodes
  have heffect := chainWriteEffect_write (s := heard s) hflip hchain hcodes hbase rfl
  have hstatus := descriptorClamped_iff base (arg r.args 1) (r.args.drop 2)
  obtain ⟨d, hd⟩ : ∃ d, d = writeDescriptor base (arg r.args 1) (r.args.drop 2) := ⟨_, rfl⟩
  obtain ⟨clamped, hclamped⟩ : ∃ b, b = descriptorClamped base (arg r.args 1) (r.args.drop 2) := ⟨_, rfl⟩
  rw [← hd, ← hclamped] at heffect hstatus
  rw [writeDescriptor_args] at hd
  simp only [arg_drop] at hpresent hmodule hstatus
  refine ⟨d.holdFloor, d.floor, (done clamped []).status, s.setStandbyBank _, ?_, ?_, ?_, hd ▸ rfl, hd ▸ rfl, rfl, hd ▸ rfl,
    hd ▸ rfl, hd ▸ rfl, hd ▸ rfl, ite_cond_congr (propext hstatus), rfl,
    exec_row (reply := done clamped (arg r.args 0 :: d.holdFloor.packed)) rfl ht heffect, by simp, by simp, fun c => ?_⟩
  · rw [hd]
    exact pick_flag hpresent _
  · rw [hd]
    refine ite_congr rfl (fun h => ?_) fun _ => rfl
    rw [bit_zero_eq_decide (hmodule h)]
    exact ite_cond_congr (propext decide_eq_true_iff)
  · rw [hd]
    refine ite_congr rfl (fun _ => ?_) fun _ => rfl
    exact congrArg (· % 4) (Nat.div_one _)
  · rw [State.setStandbyBank_cb, ConfigBanks.setStandby_standbyBank, descriptor_set]

theorem ruleWrite_laws {r : Request} {s : State} (ht : takes 6 r s) (hflip : s.cb.flip = none)
    (hrule : (arg r.args 0).toNat < 32) {base : Rule} {sel : Word} (hsel : sel = arg r.args 1)
    (hcodes : codesGood sel (r.args.drop 2) ruleTests = true)
    (hbase : base = if r.low.toNat / 256 = 1 then Rule.empty else s.cb.standbyBank.rules.get ⟨(arg r.args 0).toNat, hrule⟩) :
    ∃ (d : Rule) (st : Status) (t : State),
      d.valid = (if bit sel 0 then decide (arg r.args 2 = 1) else base.valid)
      ∧ d.chains = (if bit sel 1 then (arg r.args 3).setWidth 4 else base.chains)
      ∧ d.bands = (if bit sel 2 then arg r.args 4 else base.bands)
      ∧ d.waveforms = (if bit sel 3 then (arg r.args 5).setWidth 4 else base.waveforms)
      ∧ d.zones = (if bit sel 4 then (arg r.args 6).setWidth 4 else base.zones)
      ∧ d.mismatches = (if bit sel 5 then (arg r.args 7).setWidth 3 else base.mismatches)
      ∧ d.anchor = (if bit sel 6 then AnchorMatch.ofCode (arg r.args 8).toNat else base.anchor)
      ∧ d.ceiling = (if bit sel 7 then CeilingRef.ofCode (arg r.args 9).toNat else base.ceiling)
      ∧ d.backoff = (if bit sel 8 then min 63 ((arg r.args 10).toNat : Int) else base.backoff)
      ∧ d.shed = (if bit sel 9 then ShedPolicy.ofCode (arg r.args 11).toNat else base.shed)
      ∧ d.logAlways = (if bit sel 10 then decide (arg r.args 12 = 1) else base.logAlways)
      ∧ st = (if bit sel 8 = true ∧ 63 < (arg r.args 10).toNat then .clamped else .ok)
      ∧ t = s.setStandbyBank { s.cb.standbyBank with rules := s.cb.standbyBank.rules.set (arg r.args 0).toNat d hrule }
      ∧ exec (.ruleWrite r) s = .next (answered r.tag 6 st false (arg r.args 0 :: d.packed) t)
      ∧ t.cb.activeBank = s.cb.activeBank ∧ t.cb.active = s.cb.active
      ∧ ∀ n : Fin 32, t.cb.standbyBank.rules.get n
          = if n.val = (arg r.args 0).toNat then d else s.cb.standbyBank.rules.get n := by
  subst hsel
  obtain ⟨hvalid, -, -, -, hlog⟩ := (codesGood_rule_iff _ _).1 hcodes
  have heffect := ruleWriteEffect_write (s := heard s) hflip hrule hcodes hbase rfl
  obtain ⟨d, hd⟩ : ∃ d, d = writeRule base (arg r.args 1) (r.args.drop 2) := ⟨_, rfl⟩
  rw [← hd] at heffect
  rw [writeRule_args] at hd
  simp only [arg_drop] at hvalid hlog heffect
  refine ⟨d, (done (clampedField (arg r.args 1) 8 0 63 (arg r.args 10).toNat) []).status, s.setStandbyBank _, ?_, hd ▸ rfl,
    hd ▸ rfl, hd ▸ rfl, hd ▸ rfl, hd ▸ rfl, hd ▸ rfl, hd ▸ rfl, hd ▸ rfl, hd ▸ rfl, ?_,
    ite_cond_congr (propext (clampedField_backoff_iff _ _ _)), rfl,
    exec_row (reply := done _ (arg r.args 0 :: d.packed)) rfl ht heffect, by simp, by simp, fun n => ?_⟩
  · rw [hd]
    exact pick_flag hvalid _
  · rw [hd]
    exact pick_flag hlog _
  · rw [State.setStandbyBank_cb, ConfigBanks.setStandby_standbyBank]
    exact rules_set_get _ hrule _ _

/-- Settles O36. -/
theorem ruleAndHeaderWritesChangeOneRecord : Obligations.RuleAndHeaderWritesChangeOneRecord := by
  refine ⟨fun r s ht hflip => ⟨fun hrange => exec_row (t := s) (reply := refuse .range) rfl ht
      (ruleWriteEffect_refused (s := heard s) hflip hrange), fun hrule base sel => ruleWrite_laws ht hflip hrule⟩,
    fun r s ht hflip => ⟨fun hcodes => exec_row (t := s) (reply := refuse .range) rfl ht
      (headerWriteEffect_refused (s := heard s) hflip hcodes), fun base sel hsel hcodes hbase => ?_⟩,
    codesGood_rule_iff, codesGood_header_iff, ceilingRef_ofCode_slot, rfl, rfl, rfl⟩
  subst hsel
  have heffect := headerWriteEffect_write (s := heard s) hflip hcodes hbase rfl
  obtain ⟨d, hd⟩ : ∃ d, d = writeHeader base (arg r.args 0) (r.args.drop 1) := ⟨_, rfl⟩
  rw [← hd] at heffect
  rw [writeHeader_args] at hd
  simp only [arg_drop] at heffect
  exact ⟨d, (done (clampedField (arg r.args 0) 2 0 63 (arg r.args 3).toNat) []).status, s.setStandbyBank _, hd ▸ rfl, hd ▸ rfl,
    hd ▸ rfl, hd ▸ rfl, ite_cond_congr (propext (clampedField_backoff_iff _ _ _)), rfl,
    exec_row (reply := done _ (0 :: d.packed)) rfl ht heffect, by simp, by simp, by simp⟩

end Sys2Proof.Safety
end

section
/-! PROOFS. The references in force of a bank and their order (R102, R121), and FLIP, which checks them (R121, R122). -/

namespace Sys2Proof.Machine

/-! ### The references in force of a bank (R102, R121) -/

theorem CurveRef.mem_inForce (r : CurveRef) (place index field : Nat) (k : CurveKind) (x : RefInForce) :
    x ∈ r.inForce place index field k
      ↔ x.place = place ∧ x.index = index ∧ x.field = field ∧ x.kind = k ∧ r = .slot x.slot := by
  cases r with
  | none => simp [CurveRef.inForce]
  | slot n =>
    simp only [CurveRef.inForce, List.mem_singleton, CurveRef.slot.injEq]
    constructor
    · rintro rfl
      exact ⟨rfl, rfl, rfl, rfl, rfl⟩
    · rintro ⟨rfl, rfl, rfl, rfl, rfl⟩
      rfl

theorem CeilingRef.mem_inForce (r : CeilingRef) (place index field : Nat) (x : RefInForce) :
    x ∈ r.inForce place index field
      ↔ x.place = place ∧ x.index = index ∧ x.field = field ∧ x.kind = .ceiling ∧ r = .slot x.slot := by
  cases r with
  | default => simp [CeilingRef.inForce]
  | slot n =>
    simp only [CeilingRef.inForce, List.mem_singleton, CeilingRef.slot.injEq]
    constructor
    · rintro rfl
      exact ⟨rfl, rfl, rfl, rfl, rfl⟩
    · rintro ⟨rfl, rfl, rfl, hkind, rfl⟩
      rw [← hkind]

theorem Descriptor.mem_refs (d : Descriptor) (index : Nat) (x : RefInForce) : x ∈ d.refs index ↔
    x.place = 1 ∧ x.index = index ∧ d.present = true
      ∧ ((x.field = 6 ∧ x.kind = .ceiling ∧ d.ceiling = .slot x.slot) ∨ (x.field = 7 ∧ x.kind = .heat ∧ d.heat = .slot x.slot)
        ∨ (x.field = 8 ∧ x.kind = .current ∧ d.current = .slot x.slot)) := by
  unfold Descriptor.refs
  split
  · simp only [List.mem_append, CurveRef.mem_inForce]
    rename_i hpresent
    simp only [hpresent, true_and, and_or_left, or_assoc]
  · rename_i hpresent
    simp [hpresent]

theorem Rule.mem_refs (r : Rule) (index : Nat) (x : RefInForce) : x ∈ r.refs index ↔
    x.place = 2 ∧ x.index = index ∧ r.valid = true ∧ x.field = 7 ∧ x.kind = .ceiling ∧ r.ceiling = .slot x.slot := by
  unfold Rule.refs
  split
  · rename_i hvalid
    simp [CeilingRef.mem_inForce, hvalid]
  · rename_i hvalid
    simp [hvalid]

theorem mem_refsFrom {α : Type} (refs : α → Nat → List RefInForce) (i : Nat) (xs : List α) (x : RefInForce) :
    x ∈ refsFrom refs i xs ↔ ∃ (j : Nat) (h : j < xs.length), x ∈ refs xs[j] (i + j) := by
  induction xs generalizing i with
  | nil => simp [refsFrom]
  | cons a xs ih =>
    rw [refsFrom, List.mem_append, ih]
    constructor
    · rintro (h | ⟨j, hj, h⟩)
      · exact ⟨0, by simp, h⟩
      · exact ⟨j + 1, by simpa using hj, by simpa [Nat.add_comm, Nat.add_left_comm] using h⟩
    · rintro ⟨j, hj, h⟩
      cases j with
      | zero => exact .inl h
      | succ j => exact .inr ⟨j, by simpa using hj, by simpa [Nat.add_comm, Nat.add_left_comm] using h⟩

theorem mem_refsFrom_vector {α : Type} {n : Nat} (refs : α → Nat → List RefInForce) (xs : Vector α n) (x : RefInForce) :
    x ∈ refsFrom refs 0 xs.toList ↔ ∃ m : Fin n, x ∈ refs (xs.get m) m.val := by
  simp only [mem_refsFrom, Nat.zero_add, Vector.length_toList, Vector.getElem_toList]
  exact ⟨fun ⟨j, hj, h⟩ => ⟨⟨j, hj⟩, h⟩, fun ⟨m, h⟩ => ⟨m.val, m.isLt, h⟩⟩

/-- The order in which a FLIP examines the references: by place, then by index, then by field (R121). -/
def RefInForce.before (x y : RefInForce) : Prop :=
  x.place < y.place ∨ (x.place = y.place ∧ (x.index < y.index ∨ (x.index = y.index ∧ x.field < y.field)))

/-- References of one record each stand in the order of the records, as long as they do within each. -/
theorem pairwise_refsFrom {α : Type} {refs : α → Nat → List RefInForce} {place : Nat}
    (hplace : ∀ a i, ∀ x ∈ refs a i, x.place = place ∧ x.index = i) (hwithin : ∀ a i, (refs a i).Pairwise RefInForce.before)
    (i : Nat) (xs : List α) : (refsFrom refs i xs).Pairwise RefInForce.before := by
  induction xs generalizing i with
  | nil => exact .nil
  | cons a xs ih =>
    refine List.pairwise_append.2 ⟨hwithin a i, ih (i + 1), fun x hx y hy => .inr ?_⟩
    obtain ⟨hxp, hxi⟩ := hplace a i x hx
    obtain ⟨j, hj, hy⟩ := (mem_refsFrom _ _ _ _).1 hy
    obtain ⟨hyp, hyi⟩ := hplace _ _ y hy
    exact ⟨by omega, .inl (by omega)⟩

theorem CurveRef.pairwise_inForce (r : CurveRef) (place index field : Nat) (k : CurveKind) :
    (r.inForce place index field k).Pairwise RefInForce.before := by
  cases r <;> simp [CurveRef.inForce]

theorem CeilingRef.pairwise_inForce (r : CeilingRef) (place index field : Nat) :
    (r.inForce place index field).Pairwise RefInForce.before := by
  cases r <;> simp [CeilingRef.inForce]

theorem Descriptor.pairwise_refs (d : Descriptor) (index : Nat) : (d.refs index).Pairwise RefInForce.before := by
  unfold Descriptor.refs
  repeat' split
  · refine List.pairwise_append.2 ⟨List.pairwise_append.2 ⟨CurveRef.pairwise_inForce .., CurveRef.pairwise_inForce ..,
      fun x hx y hy => ?_⟩, CurveRef.pairwise_inForce .., fun x hx y hy => ?_⟩
    · rw [CurveRef.mem_inForce] at hx hy
      unfold RefInForce.before
      omega
    · rw [List.mem_append, CurveRef.mem_inForce, CurveRef.mem_inForce] at hx
      rw [CurveRef.mem_inForce] at hy
      unfold RefInForce.before
      omega
  · exact .nil

theorem Rule.pairwise_refs (r : Rule) (index : Nat) : (r.refs index).Pairwise RefInForce.before := by
  unfold Rule.refs
  repeat' split
  · exact CeilingRef.pairwise_inForce ..
  · exact .nil

theorem Bank.mem_refs (b : Bank) (x : RefInForce) : x ∈ b.refs ↔
    (x.place = 0 ∧ x.index = 0 ∧ ((x.field = 0 ∧ x.kind = .supply ∧ b.header.supply = .slot x.slot)
        ∨ (x.field = 1 ∧ x.kind = .ceiling ∧ b.header.ceiling = .slot x.slot)))
    ∨ (∃ c : Chain, x.place = 1 ∧ x.index = c.val ∧ (b.descriptor c).present = true
        ∧ ((x.field = 6 ∧ x.kind = .ceiling ∧ (b.descriptor c).ceiling = .slot x.slot)
          ∨ (x.field = 7 ∧ x.kind = .heat ∧ (b.descriptor c).heat = .slot x.slot)
          ∨ (x.field = 8 ∧ x.kind = .current ∧ (b.descriptor c).current = .slot x.slot)))
    ∨ (∃ n : Fin 32, x.place = 2 ∧ x.index = n.val ∧ (b.rules.get n).valid = true ∧ x.field = 7 ∧ x.kind = .ceiling
        ∧ (b.rules.get n).ceiling = .slot x.slot) := by
  rw [Bank.refs, List.mem_append, List.mem_append, List.mem_append, mem_refsFrom_vector, mem_refsFrom_vector,
    CurveRef.mem_inForce, CeilingRef.mem_inForce]
  simp only [Descriptor.mem_refs, Rule.mem_refs, Bank.descriptor]
  rw [or_assoc]
  refine or_congr ?_ Iff.rfl
  simp only [and_or_left]

/-- The references of a bank stand in the order in which a FLIP examines them, each once (R121). -/
theorem Bank.pairwise_refs (b : Bank) : b.refs.Pairwise RefInForce.before := by
  have hchains := pairwise_refsFrom (refs := Descriptor.refs) (place := 1)
    (fun d i x hx => by obtain ⟨hp, hi, -⟩ := (Descriptor.mem_refs d i x).1 hx; exact ⟨hp, hi⟩) Descriptor.pairwise_refs 0 b.chains.toList
  have hrules := pairwise_refsFrom (refs := Rule.refs) (place := 2)
    (fun r i x hx => by obtain ⟨hp, hi, -⟩ := (Rule.mem_refs r i x).1 hx; exact ⟨hp, hi⟩) Rule.pairwise_refs 0 b.rules.toList
  refine List.pairwise_append.2 ⟨List.pairwise_append.2 ⟨List.pairwise_append.2 ⟨CurveRef.pairwise_inForce ..,
    CeilingRef.pairwise_inForce .., fun x hx y hy => ?_⟩, hchains, fun x hx y hy => .inl ?_⟩, hrules, fun x hx y hy => .inl ?_⟩
  · rw [CurveRef.mem_inForce] at hx
    rw [CeilingRef.mem_inForce] at hy
    unfold RefInForce.before
    omega
  · rw [List.mem_append, CurveRef.mem_inForce, CeilingRef.mem_inForce] at hx
    simp only [mem_refsFrom, Descriptor.mem_refs] at hy
    obtain ⟨j, hj, hy, -⟩ := hy
    omega
  · simp only [List.mem_append, CurveRef.mem_inForce, CeilingRef.mem_inForce, mem_refsFrom, Descriptor.mem_refs] at hx
    simp only [mem_refsFrom, Rule.mem_refs] at hy
    obtain ⟨j, hj, hy, -⟩ := hy
    obtain (⟨hx, -⟩ | ⟨hx, -⟩) | ⟨i, hi, hx, -⟩ := hx <;> omega

theorem Bank.hasPresent_iff (b : Bank) : b.hasPresent = true ↔ ∃ c : Chain, (b.descriptor c).present = true := by
  simp only [Bank.hasPresent, List.any_eq_true, Vector.mem_toList_iff, Vector.mem_iff_getElem, Bank.descriptor]
  constructor
  · rintro ⟨d, ⟨i, hi, rfl⟩, hd⟩
    exact ⟨⟨i, hi⟩, hd⟩
  · rintro ⟨c, hc⟩
    exact ⟨_, ⟨c.val, c.isLt, rfl⟩, hc⟩

/-! ### The effect of FLIP (R121, R122) -/

theorem FlipPoint.ofCode_code (p : FlipPoint) : FlipPoint.ofCode p.code = some p := by
  cases p <;> rfl

theorem FlipPoint.ofCode_none {n : Nat} (h : 2 ≤ n) : FlipPoint.ofCode n = none := by
  unfold FlipPoint.ofCode
  split
  case h_3 => rfl
  all_goals omega

/-- The first reference that is not met is found (R121). -/
theorem failingRef_eq_some {s : State} {pre post : List RefInForce} {x : RefInForce}
    (hrefs : s.cb.standbyBank.refs = pre ++ x :: post) (hpre : ∀ y ∈ pre, s.cs.satisfies y = true)
    (hx : s.cs.satisfies x = false) : s.failingRef = some x := by
  rw [State.failingRef, hrefs, List.find?_eq_some_iff_append]
  exact ⟨by simp [hx], pre, post, rfl, fun y hy => by simp [hpre y hy]⟩

section
variable {args : List Word} {s : State} {p : FlipPoint} (hp : p.code = (arg args 0).toNat) (hflip : s.cb.flip = none)
include hp hflip

theorem flipEffect_of_failing {x : RefInForce} (h : s.failingRef = some x) :
    flipEffect args s = (s, { status := .notReady, more := false, words := s.referenceWords x }) := by
  simp only [flipEffect, ← hp, FlipPoint.ofCode_code, hflip, Option.isSome_none, Bool.false_eq_true, if_false, h]

theorem flipEffect_of_no_chain (h : s.failingRef = none) (hmode : s.ge.mode = .active)
    (hnone : s.cb.standbyBank.hasPresent = false) :
    flipEffect args s = (s, { status := .notReady, more := false, words := [1] }) := by
  simp only [flipEffect, ← hp, FlipPoint.ofCode_code, hflip, Option.isSome_none, Bool.false_eq_true, if_false, h, hmode, hnone,
    and_self, if_true]

theorem flipEffect_of_ready (h : s.failingRef = none) (hmode : s.ge.mode = .active → s.cb.standbyBank.hasPresent = true) :
    flipEffect args s = if p = .quiet ∧ s.ge.stream = .quiet then (s.applyFlip .quiet, done false [1])
      else (s.withCb { s.cb with flip := some p }, done false [0]) := by
  have hready : ¬ (s.ge.mode = .active ∧ s.cb.standbyBank.hasPresent = false) := by
    rintro ⟨hactive, hnone⟩
    simp [hmode hactive] at hnone
  simp only [flipEffect, ← hp, FlipPoint.ofCode_code, hflip, Option.isSome_none, Bool.false_eq_true, if_false, h, hready]

end

end Sys2Proof.Machine

namespace Sys2Proof.Safety

open Sys2Proof.Machine

/-- The receiver and the reset of absent chains are separate. -/
theorem heard_flipResetAbsent (s : State) (c : Chain) : (heard s).flipResetAbsent c = heard (s.flipResetAbsent c) := by
  have hset (r : ChainRecord) : (heard s).setChain c r = heard (s.setChain c r) := rfl
  have hms : (heard s).ms = s.ms := rfl
  simp only [State.flipResetAbsent, State.flipResetChain, heard_cb, hset, hms, beside_heard.record, beside_heard.raise,
    beside_heard.stamp, apply_ite heard]

theorem heard_absentReset (s : State) : (heard s).absentReset = heard s.absentReset := by
  simp only [State.absentReset, heard_flipResetAbsent]

theorem heard_exchanged (s : State) : (heard s).exchanged = heard s.exchanged := by
  have hbefore : (heard s).banksExchanged.slewCleared = heard s.banksExchanged.slewCleared := rfl
  have hafter (t : State) : (heard t).flipEnded = heard t.flipEnded := rfl
  rw [State.exchanged, State.exchanged, hbefore, heard_absentReset, hafter]

theorem heard_applyFlip (s : State) (p : FlipPoint) : (heard s).applyFlip p = heard (s.applyFlip p) := by
  rw [State.applyFlip_eq, State.applyFlip_eq, heard_exchanged, heard_cb, beside_heard.stamp, beside_heard.record,
    beside_heard.raise]

theorem exists_point {n : Nat} (h : n ≤ 1) : ∃ p : FlipPoint, p.code = n := by
  obtain rfl | rfl : n = 0 ∨ n = 1 := by omega
  · exact ⟨.frame, rfl⟩
  · exact ⟨.quiet, rfl⟩

/-- Settles O39: the row by the cases of its effect, the references by `Bank.mem_refs` and `Bank.pairwise_refs`. -/
theorem flipIsCheckedThenHeldOrApplied : Obligations.FlipIsCheckedThenHeldOrApplied := by
  refine ⟨fun r s ht => ⟨fun hrange => ?_, fun pre x post hpoint hflip hrefs hpre hx => ?_,
    fun hpoint hflip hall hmode hnone => ?_, fun p hp hflip hall hmode => ?_⟩,
    fun b => ⟨b.mem_refs, b.pairwise_refs, b.hasPresent_iff⟩, fun s x => ⟨satisfies_iff s.cs x, fun n => ?_⟩, ?_⟩
  · refine exec_row (t := s) (reply := refuse .range) rfl ht ?_
    rw [flipEffect, FlipPoint.ofCode_none hrange]
  · obtain ⟨p, hp⟩ := exists_point hpoint
    exact exec_row (t := s) (reply := { status := .notReady, more := false, words := s.referenceWords x }) rfl ht
      (flipEffect_of_failing (s := heard s) hp hflip (failingRef_eq_some (s := s) hrefs hpre hx))
  · obtain ⟨p, hp⟩ := exists_point hpoint
    exact exec_row (t := s) (reply := { status := .notReady, more := false, words := [1] }) rfl ht
      (flipEffect_of_no_chain (s := heard s) hp hflip ((State.failingRef_eq_none_iff s).2 hall) hmode hnone)
  · have hready := flipEffect_of_ready (s := heard s) hp hflip ((State.failingRef_eq_none_iff s).2 hall) hmode
    refine ⟨fun hheld => ?_, fun hquiet hstream => ?_⟩
    · refine exec_row (t := s.withCb { s.cb with flip := some p }) (reply := done false [0]) rfl ht (hready.trans (if_neg ?_))
      rintro ⟨rfl, hstream⟩
      rcases hheld with h | h
      · cases h
      · exact absurd (h.symm.trans hstream) (by decide)
    · refine exec_row (t := s.applyFlip .quiet) (reply := done false [1]) rfl ht ?_
      rw [hready, if_pos ⟨hquiet, hstream⟩, heard_applyFlip]
  · simp [State.pinned, List.any_eq_true]
  · exact fun d why => ⟨rfl, rfl⟩

end Sys2Proof.Safety
end

section
/-! PROOFS. TABLE READ, CURVE READ and MAP READ: the layout of what they return (R106, R120, R134, R180). -/

namespace Sys2Proof.Machine

/-! ### Signed fields (R171) -/

theorem field10_lt (q : Int) : field10 q < 1024 := (BitVec.ofInt 10 q).isLt

theorem signedField_field10 {q : Int} (hlow : -512 ≤ q) (hhigh : q ≤ 511) : signedField 10 (field10 q) = q := by
  have h := field10_eq q
  unfold signedField
  simp only [Nat.reduceSub, Nat.reducePow, Int.reducePow]
  (repeat' split) <;> omega

theorem field12_lt (q : Int) : (BitVec.ofInt 12 q).toNat < 4096 := (BitVec.ofInt 12 q).isLt

theorem signedField_field12 {q : Int} (hlow : -2048 ≤ q) (hhigh : q ≤ 2047) :
    signedField 12 (BitVec.ofInt 12 q).toNat = q := by
  have h : ((BitVec.ofInt 12 q).toNat : Int) = q % 4096 := by
    rw [BitVec.toNat_ofInt, Int.natCast_pow]
    exact Int.toNat_of_nonneg (Int.emod_nonneg q (by decide))
  unfold signedField
  simp only [Nat.reduceSub, Nat.reducePow, Int.reducePow]
  (repeat' split) <;> omega

/-- A flag in its place of a packed word. -/
theorem bit_ofNatural_flag {n : Nat} (h : n < 65536) {k : Nat} {b : Bool} (hk : n / 2 ^ k % 2 = flagBit b) :
    bit (Word.ofNatural n) k = b := by
  rw [bit_ofNatural h, decide_flagBit hk]

/-! ### Records packed one after the other (R180) -/

theorem flatten_map_length {α β : Type} {f : α → List β} {m : Nat} (hf : ∀ a, (f a).length = m) (xs : List α) :
    (xs.map f).flatten.length = m * xs.length := by
  induction xs with
  | nil => simp
  | cons x xs ih => simp [hf, ih, Nat.mul_add, Nat.add_comm]

/-- Of lists of one length joined, item j of list i. -/
theorem getElem?_flatten_map {α β : Type} {f : α → List β} {m : Nat} (hf : ∀ a, (f a).length = m) (xs : List α) {i j : Nat}
    (hi : i < xs.length) (hj : j < m) : (xs.map f).flatten[m * i + j]? = (f xs[i])[j]? := by
  induction xs generalizing i with
  | nil => simp at hi
  | cons x xs ih =>
    rw [List.map_cons, List.flatten_cons]
    cases i with
    | zero => rw [Nat.mul_zero, Nat.zero_add, List.getElem?_append_left (by rwa [hf]), List.getElem_cons_zero]
    | succ i =>
      have hplace : m * (i + 1) + j = (f x).length + (m * i + j) := by rw [hf, Nat.mul_succ]; omega
      rw [hplace, List.getElem?_append_right (Nat.le_add_right _ _), Nat.add_sub_cancel_left,
        ih (Nat.lt_of_succ_lt_succ hi), List.getElem_cons_succ]

/-- The records of a run, each in as many words as every other. -/
theorem packedRun_laws {α : Type} {pack : α → List Word} {m n : Nat} (hpack : ∀ a, (pack a).length = m) (xs : Vector α n)
    {first count : Nat} (h : first + count ≤ n) :
    (packedRun pack first count xs.toList).length = m * count
      ∧ ∀ (k : Fin n) (i j : Nat), k.val = first + i → i < count → j < m →
        (packedRun pack first count xs.toList)[m * i + j]? = (pack (xs.get k))[j]? := by
  have hlength : ((xs.toList.drop first).take count).length = count := by
    rw [List.length_take, List.length_drop, Vector.length_toList]
    omega
  refine ⟨by rw [packedRun, flatten_map_length hpack, hlength], fun k i j hk hi hj => ?_⟩
  rw [packedRun, getElem?_flatten_map hpack _ (by omega) hj, List.getElem_take, List.getElem_drop]
  simp only [Vector.getElem_toList, ← hk]
  rfl

/-! ### Packed descriptors, rules and headers (R180) -/

theorem Descriptor.packed_length (d : Descriptor) : d.packed.length = 3 := rfl

theorem Rule.packed_length (r : Rule) : r.packed.length = 3 := rfl

/-! The words of the packed records as sums of numbers: each field is read back from its bits. -/

theorem descriptor_word0 {present module priority rated : Nat} (hp : present ≤ 1) (hm : module ≤ 1) (hq : priority ≤ 3)
    (hr : rated < 1024) {w : Word} (hw : w = Word.ofNatural (present * 32768 + module * 16384 + priority * 4096 + rated)) :
    bit w 15 = decide (present = 1) ∧ bits w 14 1 = module ∧ bits w 12 2 = priority ∧ bits w 10 2 = 0 ∧ bits w 0 10 = rated := by
  have hlt : present * 32768 + module * 16384 + priority * 4096 + rated < 65536 := by omega
  rw [hw, bit_ofNatural hlt]
  simp only [bits_ofNatural hlt]
  exact ⟨decide_eq_decide.2 (by omega), by omega, by omega, by omega, by omega⟩

theorem descriptor_word1 {rise floor : Nat} (hr : rise ≤ 32) (hf : floor < 1024) {w : Word}
    (hw : w = Word.ofNatural (rise * 1024 + floor)) : bits w 10 6 = rise ∧ bits w 0 10 = floor := by
  have hlt : rise * 1024 + floor < 65536 := by omega
  rw [hw]
  simp only [bits_ofNatural hlt]
  omega

theorem descriptor_word2 {ceiling heat current : Nat} (hc : ceiling ≤ 16) (hh : heat ≤ 16) (hu : current ≤ 16) {w : Word}
    (hw : w = Word.ofNatural (ceiling * 1024 + heat * 32 + current)) :
    bits w 15 1 = 0 ∧ bits w 10 5 = ceiling ∧ bits w 5 5 = heat ∧ bits w 0 5 = current := by
  have hlt : ceiling * 1024 + heat * 32 + current < 65536 := by omega
  rw [hw]
  simp only [bits_ofNatural hlt]
  omega

theorem rule_word1 {chains waveforms zones valid mismatches : Nat} (hc : chains < 16) (hw : waveforms < 16) (hz : zones < 16)
    (hv : valid ≤ 1) (hm : mismatches < 8) {w : Word}
    (h : w = Word.ofNatural (chains * 4096 + waveforms * 256 + zones * 16 + valid * 8 + mismatches)) :
    bits w 12 4 = chains ∧ bits w 8 4 = waveforms ∧ bits w 4 4 = zones ∧ bit w 3 = decide (valid = 1)
      ∧ bits w 0 3 = mismatches := by
  have hlt : chains * 4096 + waveforms * 256 + zones * 16 + valid * 8 + mismatches < 65536 := by omega
  rw [h, bit_ofNatural hlt]
  simp only [bits_ofNatural hlt]
  exact ⟨by omega, by omega, by omega, decide_eq_decide.2 (by omega), by omega⟩

theorem rule_word2 {log anchor shed ceiling backoff : Nat} (hl : log ≤ 1) (ha : anchor ≤ 2) (hs : shed ≤ 2)
    (hc : ceiling ≤ 17) (hb : backoff ≤ 63) {w : Word}
    (h : w = Word.ofNatural (log * 32768 + anchor * 8192 + shed * 2048 + ceiling * 64 + backoff)) :
    bit w 15 = decide (log = 1) ∧ bits w 13 2 = anchor ∧ bits w 11 2 = shed ∧ bits w 6 5 = ceiling
      ∧ bits w 0 6 = backoff := by
  have hlt : log * 32768 + anchor * 8192 + shed * 2048 + ceiling * 64 + backoff < 65536 := by omega
  rw [h, bit_ofNatural hlt]
  simp only [bits_ofNatural hlt]
  exact ⟨decide_eq_decide.2 (by omega), by omega, by omega, by omega, by omega⟩

/-- The fields of a packed descriptor, word by word. -/
theorem Descriptor.packed_fields {d : Descriptor} {w : Nat → Word} (hw : ∀ k, w k = d.packed.getD k 0) (hpriority : d.priority ≤ 3)
    (hrated : -200 ≤ d.rated ∧ d.rated ≤ 140) (hfloor : -200 ≤ d.floor ∧ d.floor ≤ 140) (hrise : 1 ≤ d.rise ∧ d.rise ≤ 32) :
    bit (w 0) 15 = d.present ∧ bits (w 0) 14 1 = d.module.code ∧ bits (w 0) 12 2 = d.priority
      ∧ bits (w 0) 10 2 = 0 ∧ signedField 10 (bits (w 0) 0 10) = d.rated ∧ (bits (w 1) 10 6 : Int) = d.rise
      ∧ signedField 10 (bits (w 1) 0 10) = d.floor ∧ bits (w 2) 15 1 = 0 ∧ bits (w 2) 10 5 = d.ceiling.code
      ∧ bits (w 2) 5 5 = d.heat.code ∧ bits (w 2) 0 5 = d.current.code := by
  obtain ⟨hpresent, hmodule, hprio, hzero, hratedBits⟩ :=
    descriptor_word0 (flagBit_le d.present) d.module.code_le hpriority (field10_lt d.rated) (hw 0)
  obtain ⟨hriseBits, hfloorBits⟩ := descriptor_word1 (Int.toNat_le.2 hrise.2) (field10_lt d.floor) (hw 1)
  have hrefs := descriptor_word2 d.ceiling.code_le d.heat.code_le d.current.code_le (hw 2)
  refine ⟨hpresent.trans (decide_flagBit rfl), hmodule, hprio, hzero, ?_, ?_, ?_, hrefs⟩
  · rw [hratedBits, signedField_field10 (by omega) (by omega)]
  · rw [hriseBits, Int.toNat_of_nonneg (by omega)]
  · rw [hfloorBits, signedField_field10 (by omega) (by omega)]

theorem Rule.packed_fields {r : Rule} {w : Nat → Word} (hw : ∀ k, w k = r.packed.getD k 0) (hlow : 0 ≤ r.backoff)
    (hhigh : r.backoff ≤ 63) :
    w 0 = r.bands ∧ bits (w 1) 12 4 = r.chains.toNat ∧ bits (w 1) 8 4 = r.waveforms.toNat
      ∧ bits (w 1) 4 4 = r.zones.toNat ∧ bit (w 1) 3 = r.valid ∧ bits (w 1) 0 3 = r.mismatches.toNat
      ∧ bit (w 2) 15 = r.logAlways ∧ bits (w 2) 13 2 = r.anchor.code ∧ bits (w 2) 11 2 = r.shed.code
      ∧ bits (w 2) 6 5 = r.ceiling.code ∧ (bits (w 2) 0 6 : Int) = r.backoff := by
  have hbands : w 0 = r.bands := (hw 0).trans (by simp [Rule.packed, Word.ofNatural])
  obtain ⟨hchains, hwaveforms, hzones, hvalid, hmismatches⟩ := rule_word1 r.chains.isLt r.waveforms.isLt r.zones.isLt
    (flagBit_le r.valid) r.mismatches.isLt (hw 1)
  obtain ⟨hlog, hanchor, hshed, hceiling, hbackoff⟩ := rule_word2 (flagBit_le r.logAlways) r.anchor.code_le r.shed.code_le
    r.ceiling.code_le (Int.toNat_le.2 hhigh) (hw 2)
  exact ⟨hbands, hchains, hwaveforms, hzones, hvalid.trans (decide_flagBit rfl), hmismatches, hlog.trans (decide_flagBit rfl),
    hanchor, hshed, hceiling, by rw [hbackoff, Int.toNat_of_nonneg hlow]⟩

theorem Header.packed_fields {h : Header} {w : Nat → Word} (hw : ∀ k, w k = h.packed.getD k 0) (hlow : 0 ≤ h.backoff)
    (hhigh : h.backoff ≤ 63) :
    bits (w 0) 10 6 = 0 ∧ bits (w 0) 5 5 = h.supply.code ∧ bits (w 0) 0 5 = h.ceiling.code
      ∧ bits (w 1) 8 8 = 0 ∧ bits (w 1) 6 2 = h.shed.code ∧ (bits (w 1) 0 6 : Int) = h.backoff := by
  have hsupply := h.supply.code_le
  have hceiling := h.ceiling.code_le
  have hshed := h.shed.code_le
  have hlt0 : h.supply.code * 32 + h.ceiling.code < 65536 := by omega
  have hlt1 : h.shed.code * 64 + h.backoff.toNat < 65536 := by omega
  rw [show w 0 = Word.ofNatural _ from hw 0, show w 1 = Word.ofNatural _ from hw 1]
  simp only [bits_ofNatural hlt0, bits_ofNatural hlt1]
  omega

/-! ### The words of a CURVE READ (R106, R180) -/

theorem CurveSlot.readWords_of_none {c : CurveSlot} (h : c.data = none) (p : Bool) :
    c.readWords p = [Word.ofNatural (c.stateCode + c.reasonCode * 4 + flagBit p * 16 + c.kindCode * 32), 0, 0, 0] := by
  simp only [CurveSlot.readWords, h]

theorem CurveSlot.readWords_of_some {c : CurveSlot} {d : CurveData} (h : c.data = some d) (p : Bool) :
    c.readWords p = Word.ofNatural (c.stateCode + c.reasonCode * 4 + flagBit p * 16 + c.kindCode * 32)
      :: Word.ofSigned d.x0 :: Word.ofNatural d.shift :: Word.ofNatural d.ys.length :: d.ys.map Word.ofSigned := by
  simp only [CurveSlot.readWords, h]
  rfl

theorem CurveSlot.codes_le (c : CurveSlot) : c.stateCode ≤ 3 ∧ c.reasonCode ≤ 3 ∧ c.kindCode ≤ 3 := by
  cases c with
  | empty => decide
  | loading d => exact ⟨by simp [CurveSlot.stateCode], by simp [CurveSlot.reasonCode], d.kind.code_le⟩
  | valid d => exact ⟨by simp [CurveSlot.stateCode], by simp [CurveSlot.reasonCode], d.kind.code_le⟩
  | invalid why d => exact ⟨by simp [CurveSlot.stateCode], why.code_le, d.kind.code_le⟩

/-- The first word of a CURVE READ. -/
theorem CurveSlot.first_fields (c : CurveSlot) (p : Bool) {w : Word}
    (hw : w = Word.ofNatural (c.stateCode + c.reasonCode * 4 + flagBit p * 16 + c.kindCode * 32)) :
    bit w 4 = p ∧ bits w 7 9 = 0 ∧ bits w 0 2 = c.stateCode ∧ bits w 2 2 = c.reasonCode ∧ bits w 5 2 = c.kindCode
      ∧ bits w 0 4 = c.stateCode + c.reasonCode * 4 := by
  obtain ⟨hstate, hreason, hkind⟩ := c.codes_le
  have hflag := flagBit_le p
  have hlt : c.stateCode + c.reasonCode * 4 + flagBit p * 16 + c.kindCode * 32 < 65536 := by omega
  rw [hw]
  simp only [bits_ofNatural hlt]
  exact ⟨bit_ofNatural_flag hlt (by omega), by omega, by omega, by omega, by omega, by omega⟩

theorem CurveSlot.readWords_first (c : CurveSlot) (p : Bool) : (c.readWords p).getD 0 0
    = Word.ofNatural (c.stateCode + c.reasonCode * 4 + flagBit p * 16 + c.kindCode * 32) := by
  cases h : c.data with
  | none => rw [CurveSlot.readWords_of_none h]; rfl
  | some d => rw [CurveSlot.readWords_of_some h]; rfl

/-- The words after the first of a slot that holds a curve. -/
theorem CurveSlot.data_fields {c : CurveSlot} {d : CurveData} (h : c.data = some d) {p : Bool} {w : Nat → Word}
    (hw : ∀ k, w k = (c.readWords p).getD k 0) (hx0 : -200 ≤ d.x0 ∧ d.x0 ≤ 4095) (hshift : d.shift ≤ 7)
    (hlength : d.ys.length ≤ 17) (hys : ∀ y ∈ d.ys, -32768 ≤ y ∧ y ≤ 32767) :
    (w 1).toInt = d.x0 ∧ (w 2).toNat = d.shift ∧ (w 3).toNat = d.ys.length ∧ (c.readWords p).length = 4 + d.ys.length
      ∧ ∀ i y, d.ys[i]? = some y → (w (4 + i)).toInt = y := by
  have hwords := CurveSlot.readWords_of_some h p
  simp only [hwords] at hw
  refine ⟨?_, ?_, ?_, ?_, fun i y hy => ?_⟩
  · rw [show w 1 = Word.ofSigned d.x0 from hw 1, Word.ofSigned_toInt _ (by omega) (by omega)]
  · rw [show w 2 = Word.ofNatural d.shift from hw 2, Word.toNat_ofNatural (by omega)]
  · rw [show w 3 = Word.ofNatural d.ys.length from hw 3, Word.toNat_ofNatural (by omega)]
  · simp only [hwords, List.length_cons, List.length_map]
    omega
  · obtain ⟨hlow, hhigh⟩ := hys y (List.mem_of_getElem? hy)
    have hget : w (4 + i) = Word.ofSigned y := by
      rw [hw, show 4 + i = i + 1 + 1 + 1 + 1 by omega]
      simp [hy]
    rw [hget, Word.ofSigned_toInt _ hlow hhigh]

/-! ### Map entries (R180) -/

/-- The code of the kind of a channel, 0 for NONE (section 7.2). -/
def MapEntry.kindCode (e : MapEntry) : Nat := e.kind.elim 0 obsCode

theorem MapEntry.word_eq (e : MapEntry) :
    e.word = Word.ofNatural (e.kindCode * 4096 + (BitVec.ofInt 12 e.offset).toNat) := by
  unfold MapEntry.word MapEntry.kindCode
  cases e.kind <;> rfl

theorem MapEntry.kindCode_le (e : MapEntry) : e.kindCode ≤ 12 := by
  unfold MapEntry.kindCode
  cases e.kind with
  | none => decide
  | some k => exact (obsCode_le k).2

theorem MapEntry.word_fields {e : MapEntry} (hlow : -128 ≤ e.offset) (hhigh : e.offset ≤ 127) :
    bits e.word 12 4 = e.kindCode ∧ signedField 12 (bits e.word 0 12) = e.offset := by
  have hkind := e.kindCode_le
  have hoffset := field12_lt e.offset
  have hlt : e.kindCode * 4096 + (BitVec.ofInt 12 e.offset).toNat < 65536 := by omega
  have hfield : bits e.word 0 12 = (BitVec.ofInt 12 e.offset).toNat := by
    rw [MapEntry.word_eq, bits_ofNatural hlt]
    omega
  refine ⟨?_, ?_⟩
  · rw [MapEntry.word_eq, bits_ofNatural hlt]
    omega
  · rw [hfield, signedField_field12 (by omega) (by omega)]

theorem mapRun_laws (m : Vector MapEntry 16) {first count : Nat} (h : first + count ≤ 16) :
    (mapRun m first count).length = count
      ∧ ∀ (n : Fin 16) (i : Nat) (w : Word), n.val = first + i → (mapRun m first count)[i]? = some w →
        w = (m.get n).word := by
  refine ⟨?_, fun n i w hn hw => ?_⟩
  · rw [mapRun, List.length_map, List.length_take, List.length_drop, Vector.length_toList]
    omega
  · rw [mapRun, List.getElem?_map, List.getElem?_take, List.getElem?_drop, ← hn, Vector.getElem?_toList,
      Vector.getElem?_eq_getElem n.isLt] at hw
    split at hw
    · exact (Option.some.inj hw).symm
    · cases hw

/-! ### The effects of the three reads -/

theorem tableReadEffect_of_range {args : List Word} {s : State}
    (h : 1 < (arg args 0).toNat ∨ ∀ b : Bank, b.tableRun (arg args 1).toNat (arg args 2).toNat (arg args 3).toNat = none) :
    tableReadEffect args s = (s, refuse .range) := by
  unfold tableReadEffect
  cases hselect : s.selectBank (arg args 0).toNat with
  | none => rfl
  | some id =>
    have hlow : (arg args 0).toNat ≤ 1 := by
      refine Decidable.byContradiction fun hhigh => ?_
      obtain ⟨n, hn⟩ : ∃ n, (arg args 0).toNat = n + 2 := ⟨(arg args 0).toNat - 2, by omega⟩
      rw [hn] at hselect
      cases hselect
    simp only [h.resolve_left (by omega)]

theorem tableReadEffect_of_run {args : List Word} {s : State} {id : Fin 2} {first : Nat} {ws : List Word}
    (hselect : s.selectBank (arg args 0).toNat = some id)
    (hrun : (s.cb.bank id).tableRun (arg args 1).toNat (arg args 2).toNat (arg args 3).toNat = some (first, ws)) :
    tableReadEffect args s = (s, done false (s.tableWord id :: Word.ofNatural first :: ws)) := by
  simp only [tableReadEffect, hselect, hrun]

theorem selectBank_of_le {s : State} {n : Nat} (h : n ≤ 1) :
    s.selectBank n = some (if n = 0 then s.cb.active else s.cb.standbyId) := by
  obtain rfl | rfl : n = 0 ∨ n = 1 := by omega
  · rfl
  · rfl

/-- A table code above 2, or a run beyond a table, gives no records (R120). -/
theorem Bank.tableRun_none (b : Bank) {table first count : Nat}
    (h : 2 < table ∨ ((table = 1 ∨ table = 2) ∧ (count < 1 ∨ 4 < count ∨ (if table = 1 then 4 else 32) < first + count))) :
    b.tableRun table first count = none := by
  unfold Bank.tableRun
  split
  case h_1 => simp at h
  case h_2 =>
    simp only [if_true] at h
    exact if_neg (by omega)
  case h_3 =>
    simp only [show (2 : Nat) ≠ 1 by decide, if_false] at h
    exact if_neg (by omega)
  case h_4 => rfl

theorem Bank.tableRun_chains (b : Bank) {first count : Nat} (hlow : 1 ≤ count) (hhigh : count ≤ 4) (h : first + count ≤ 4) :
    b.tableRun 1 first count = some (first, packedRun Descriptor.packed first count b.chains.toList) := if_pos ⟨hlow, hhigh, h⟩

theorem Bank.tableRun_rules (b : Bank) {first count : Nat} (hlow : 1 ≤ count) (hhigh : count ≤ 4) (h : first + count ≤ 32) :
    b.tableRun 2 first count = some (first, packedRun Rule.packed first count b.rules.toList) := if_pos ⟨hlow, hhigh, h⟩

/-- Word 2 of a TABLE READ (R180). -/
theorem State.tableWord_fields (s : State) (id : Fin 2) :
    bits (s.tableWord id) 0 1 = id.val ∧ bits (s.tableWord id) 1 1 = s.cb.active.val
      ∧ bit (s.tableWord id) 2 = s.cb.flip.isSome ∧ ∀ p, s.cb.flip = some p → bits (s.tableWord id) 3 1 = p.code := by
  have hid := id.isLt
  have hactive := s.cb.active.isLt
  have hflip := flagBit_le s.cb.flip.isSome
  have hpoint := flagBit_le s.pointBit
  have hlt : id.val + s.cb.active.val * 2 + flagBit s.cb.flip.isSome * 4 + flagBit s.pointBit * 8 < 65536 := by omega
  unfold State.tableWord
  simp only [bits_ofNatural hlt]
  refine ⟨by omega, by omega, bit_ofNatural_flag hlt (by omega), fun p hp => ?_⟩
  have hcode : flagBit s.pointBit = p.code := by
    rw [State.pointBit_pending s p hp]
    cases p <;> rfl
  omega

theorem curveReadEffect_of_range {args : List Word} (h : 16 ≤ (arg args 0).toNat) (s : State) :
    curveReadEffect args s = (s, refuse .range) := dif_neg (by omega)

theorem curveReadEffect_of_slot {args : List Word} {n : Fin 16} (h : n.val = (arg args 0).toNat) (s : State) :
    curveReadEffect args s = (s, done false ((s.cs.slots.get n).readWords (s.pinned n))) := by
  obtain ⟨n, hn⟩ := n
  obtain rfl : n = (arg args 0).toNat := h
  exact dif_pos hn

theorem runGood_iff (first count : Nat) : runGood first count = true ↔ 1 ≤ count ∧ first + count ≤ 16 := by
  simp only [runGood, Bool.and_eq_true, decide_eq_true_eq]
  omega

theorem mapReadEffect_of_range {args : List Word} (h : (arg args 1).toNat < 1 ∨ 16 < (arg args 0).toNat + (arg args 1).toNat)
    (s : State) : mapReadEffect args s = (s, refuse .range) :=
  if_pos (by rw [← Bool.not_eq_true, runGood_iff]; omega)

theorem mapReadEffect_of_run {args : List Word} {s : State} (hintake : s.inHand.intake = none) (hlow : 1 ≤ (arg args 1).toNat)
    (h : (arg args 0).toNat + (arg args 1).toNat ≤ 16) : mapReadEffect args s
      = (s, done false (arg args 0 :: arg args 1 :: mapRun s.ti.map (arg args 0).toNat (arg args 1).toNat)) := by
  rw [mapReadEffect, if_neg (by rw [(runGood_iff _ _).2 ⟨hlow, h⟩]; decide), State.settleIntake_none s hintake]

end Sys2Proof.Machine

namespace Sys2Proof.Safety

open Sys2Proof.Machine

/-- What a CURVE READ returns, field by field. -/
theorem readWords_laws (c : CurveSlot) (p : Bool) (w : Nat → Word) (hw : ∀ k, w k = (c.readWords p).getD k 0) :
    bit (w 0) 4 = p ∧ bits (w 0) 7 9 = 0
      ∧ (c = .empty → bits (w 0) 0 4 = 0 ∧ bits (w 0) 5 2 = 0 ∧ c.readWords p = [w 0, 0, 0, 0])
      ∧ ∀ (d : CurveData) (st why : Nat), (c = .loading d ∧ st = 1 ∧ why = 0) ∨ (c = .valid d ∧ st = 2 ∧ why = 0)
            ∨ (∃ x : InvalidReason, c = .invalid x d ∧ st = 3 ∧ why = x.code) →
          -200 ≤ d.x0 → d.x0 ≤ 4095 → d.shift ≤ 7 → d.ys.length ≤ 17 → (∀ y ∈ d.ys, -32768 ≤ y ∧ y ≤ 32767) →
          bits (w 0) 0 2 = st ∧ bits (w 0) 2 2 = why ∧ bits (w 0) 5 2 = d.kind.code ∧ (w 1).toInt = d.x0
            ∧ (w 2).toNat = d.shift ∧ (w 3).toNat = d.ys.length ∧ (c.readWords p).length = 4 + d.ys.length
            ∧ ∀ i y, d.ys[i]? = some y → (w (4 + i)).toInt = y := by
  have hfirst := (hw 0).trans (c.readWords_first p)
  obtain ⟨hpin, hzero, hstate, hreason, hkind, hlow⟩ := c.first_fields p hfirst
  refine ⟨hpin, hzero, ?_, fun d st why hc hx hx' hshift hlength hys => ?_⟩
  · rintro rfl
    exact ⟨hlow, hkind, by rw [CurveSlot.readWords_of_none rfl, hfirst]⟩
  · obtain ⟨hdata, hst, hwhy, hcode⟩ : c.data = some d ∧ c.stateCode = st ∧ c.reasonCode = why ∧ c.kindCode = d.kind.code := by
      rcases hc with ⟨rfl, rfl, rfl⟩ | ⟨rfl, rfl, rfl⟩ | ⟨x, rfl, rfl, rfl⟩ <;> exact ⟨rfl, rfl, rfl, rfl⟩
    exact ⟨hstate.trans hst, hreason.trans hwhy, hkind.trans hcode,
      CurveSlot.data_fields hdata hw ⟨hx, hx'⟩ hshift hlength hys⟩

/-- Settles O42. -/
theorem tableReadsChangeNothing : Obligations.TableReadsChangeNothing := by
  refine ⟨fun r s => ⟨fun ht => ⟨fun hrange => ?_, fun htable hrange => ?_, fun id first ws hselect hid hrun => ?_⟩,
      fun ht => ⟨fun hrange => ?_, fun n hn => ?_⟩, fun ht hintake => ⟨fun hrange => ?_, fun hlow hrun => ?_⟩⟩,
    fun b first count => ⟨rfl, fun hlow hhigh h => ?_, fun hlow hhigh h => ?_⟩,
    ⟨rfl, rfl, rfl, rfl⟩, ⟨fun n => ⟨rfl, rfl⟩, rfl, rfl⟩,
    fun d w hw hpriority hr hr' hf hf' hs hs' => ⟨d.packed_length, Descriptor.packed_fields hw hpriority ⟨hr, hr'⟩ ⟨hf, hf'⟩ ⟨hs, hs'⟩⟩,
    fun r w hw hlow hhigh => ⟨r.packed_length, Rule.packed_fields hw hlow hhigh⟩,
    fun h w hw hlow hhigh => ⟨rfl, Header.packed_fields hw hlow hhigh⟩, readWords_laws, fun m first count h => ?_⟩
  · exact exec_row (t := s) (reply := refuse .range) rfl ht
      (tableReadEffect_of_range (hrange.imp_right fun h b => b.tableRun_none (.inl h)))
  · exact exec_row (t := s) (reply := refuse .range) rfl ht
      (tableReadEffect_of_range (.inr fun b => b.tableRun_none (.inr ⟨htable, hrange⟩)))
  · exact ⟨exec_row (t := s) (reply := done false (s.tableWord id :: Word.ofNatural first :: ws)) rfl ht
      (tableReadEffect_of_run (s := heard s) ((selectBank_of_le hselect).trans (congrArg some hid.symm)) hrun), s.tableWord_fields id⟩
  · exact exec_row (t := s) (reply := refuse .range) rfl ht (curveReadEffect_of_range hrange _)
  · exact exec_row (t := s) (reply := done false ((s.cs.slots.get n).readWords (s.pinned n))) rfl ht
      (curveReadEffect_of_slot hn (heard s))
  · exact exec_row (t := s) (reply := refuse .range) rfl ht (mapReadEffect_of_range hrange _)
  · exact exec_row (t := s) (reply := done false _) rfl ht (mapReadEffect_of_run (s := heard s) hintake hlow hrun)
  · exact ⟨_, b.tableRun_chains hlow hhigh h, packedRun_laws Descriptor.packed_length b.chains h⟩
  · exact ⟨_, b.tableRun_rules hlow hhigh h, packedRun_laws Rule.packed_length b.rules h⟩
  · obtain ⟨hlength, hget⟩ := mapRun_laws m h
    refine ⟨hlength, fun n i w hn hw hlow hhigh => ?_⟩
    obtain ⟨hkind, hoffset⟩ := MapEntry.word_fields hlow hhigh
    rw [hget n i w hn hw]
    exact ⟨fun hnone => by rw [hkind, MapEntry.kindCode, hnone]; rfl,
      fun k hk => by rw [hkind, MapEntry.kindCode, hk]; rfl, hoffset⟩

end Sys2Proof.Safety
end

section
/-! PROOFS. The curves and the map: CURVE OPEN and CURVE DATA (R96 to R100), the evaluation of a curve (R93, R94), and
MAP WRITE (R133). -/

namespace Sys2Proof.Machine

/-! ### CURVE OPEN (R96, R97) -/

theorem CurveKind.ofCode_code (k : CurveKind) : CurveKind.ofCode k.code = some k := by
  cases k <;> rfl

theorem CurveKind.ofCode_none {n : Nat} (h : 3 < n) : CurveKind.ofCode n = none := by
  unfold CurveKind.ofCode
  split
  case h_5 => rfl
  all_goals omega

theorem CurveKind.exists_code {n : Nat} (h : n ≤ 3) : ∃ k : CurveKind, k.code = n := by
  obtain rfl | rfl | rfl | rfl : n = 0 ∨ n = 1 ∨ n = 2 ∨ n = 3 := by omega
  · exact ⟨.ceiling, rfl⟩
  · exact ⟨.heat, rfl⟩
  · exact ⟨.current, rfl⟩
  · exact ⟨.supply, rfl⟩

/-- An abandon of a LOADING slot other than the one opened (R97). -/
theorem State.abandon_of_loading {s : State} {l : LoadCursor} {d : CurveData} {n : Fin 16} (hl : s.cs.cursor = some l)
    (hne : l.slot ≠ n) (hd : s.cs.slots.get l.slot = .loading d) :
    s.abandon n = (s.setSlot l.slot (.invalid .abandoned d)).record (.curve l.slot .abandoned s.stamp) := by
  simp only [State.abandon, hl, hne, if_false, hd]

/-- An abandon does nothing unless another slot is LOADING. -/
theorem State.abandon_cases (s : State) (n : Fin 16) : s.abandon n = s
    ∨ ∃ l d, s.cs.cursor = some l ∧ l.slot ≠ n ∧ s.cs.slots.get l.slot = .loading d := by
  cases hl : s.cs.cursor with
  | none => exact .inl (Safety.abandon_of_none hl n)
  | some l =>
    by_cases hne : l.slot = n
    · exact .inl (hne ▸ Safety.abandon_of_same hl)
    · by_cases hd : ∃ d, s.cs.slots.get l.slot = .loading d
      · obtain ⟨d, hd⟩ := hd
        exact .inr ⟨l, d, rfl, hne, hd⟩
      · left
        simp only [State.abandon, hl, hne, if_false]
        split
        · exact absurd ⟨_, ‹_›⟩ hd
        · rfl

end Sys2Proof.Machine

namespace Sys2Proof.Safety

open Sys2Proof.Machine

theorem heard_abandon (s : State) (n : Fin 16) : (heard s).abandon n = heard (s.abandon n) := by
  have hcs : (heard s).cs = s.cs := rfl
  have hset (m : Fin 16) (c : CurveSlot) : (heard s).setSlot m c = heard (s.setSlot m c) := rfl
  rcases s.abandon_cases n with h | ⟨l, d, hl, hne, hd⟩
  · rcases (heard s).abandon_cases n with h' | ⟨l, d, hl, hne, hd⟩
    · rw [h, h']
    · rw [State.abandon_of_loading hl hne hd, State.abandon_of_loading (s := s) hl hne hd, hset, beside_heard.record,
        beside_heard.stamp]
  · rw [State.abandon_of_loading (s := heard s) hl hne hd, State.abandon_of_loading hl hne hd, hset, beside_heard.record,
      beside_heard.stamp]

theorem heard_startLoading (s : State) (n : Fin 16) (k : CurveKind) (x0 : Int) (shift : Nat) :
    (heard s).startLoading n k x0 shift = heard (s.startLoading n k x0 shift) := rfl

/-- What an abandon and the start of a load leave, from the state after the abandon on. -/
theorem logsOnly_abandon (s : State) (n : Fin 16) : logsOnly (s.withCs (s.abandon n).cs) (s.abandon n) := by
  rcases s.abandon_cases n with h | ⟨l, d, hl, hne, hd⟩
  · rw [h]
    rfl
  · rw [State.abandon_of_loading hl hne hd, State.record_cs]
    exact logsOnly_record (s.setSlot l.slot (.invalid .abandoned d)) _

theorem abandon_slot_of_not_named {s : State} {n m : Fin 16} (h : ∀ l, s.cs.cursor = some l → l.slot ≠ m) :
    (s.abandon n).cs.slots.get m = s.cs.slots.get m := by
  rcases s.abandon_cases n with h' | ⟨l, d, hl, hne, hd⟩
  · rw [h']
  · rw [State.abandon_of_loading hl hne hd, State.record_cs]
    exact State.setSlot_slots_of_ne _ _ _ _ (h l hl).symm

theorem logsOnly.startLoading {s a : State} (h : logsOnly (s.withCs a.cs) a) (n : Fin 16) (k : CurveKind) (x0 : Int)
    (shift : Nat) : logsOnly (s.withCs (a.startLoading n k x0 shift).cs) (a.startLoading n k x0 shift) := by
  rw [logsOnly] at h
  rw [h]
  rfl

/-- Settles O43. -/
theorem curveOpenStartsALoad : Obligations.CurveOpenStartsALoad := by
  refine ⟨rfl, fun r s ht => ⟨fun hrange => ?_, fun n hn hkind hpin => ?_, fun n k x0 sh hn hk hpin hx0 hsh => ?_⟩⟩
  · refine exec_row (t := s) (reply := refuse .range) rfl ht ?_
    rcases hrange with h | h
    · exact curveOpenEffect_of_slot_range h _
    · exact curveOpenEffect_of_kind_none (CurveKind.ofCode_none h) _
  · obtain ⟨k, hk⟩ := CurveKind.exists_code hkind
    refine exec_row (t := s) (reply := refuse .inUse) rfl ht ?_
    rw [curveOpenEffect_of_kind hn (hk ▸ k.ofCode_code), if_pos (by exact hpin)]
  · have heffect := curveOpenEffect_of_kind hn (hk ▸ k.ofCode_code) (heard s)
    rw [if_neg (by exact (Bool.not_eq_true _).mpr hpin), ← hx0, ← hsh, heard_abandon, heard_startLoading] at heffect
    have hstatus : (done (x0 != (arg r.args 2).toInt || sh != (arg r.args 3).toNat) []).status
        = if x0 = (arg r.args 2).toInt ∧ sh = (arg r.args 3).toNat then .ok else .clamped := by
      rw [done_status, ← ite_not]
      exact ite_cond_congr (propext (by simp))
    refine ⟨(s.abandon n).startLoading n k x0 sh, ?_, ?_, rfl, fun l d hl hne hd => ⟨?_, fun hmode => ?_⟩,
      fun m hm hnot => ?_, fun hnone => ?_, (logsOnly_abandon s n).startLoading n k x0 sh⟩
    · rw [← hstatus]
      exact exec_row (reply := done _ _) rfl ht heffect
    · rw [startLoading_slot, if_pos rfl]
    · rw [startLoading_slot, if_neg hne, State.abandon_of_loading hl hne hd, State.record_cs]
      exact State.setSlot_slots_self ..
    · have hol (a : State) : newest (a.startLoading n k x0 sh) = newest a := newest_congr rfl
      have hkeeps (c : CurveSlot) : (s.setSlot l.slot c).param .logMode = 1 := hmode
      rw [hol, State.abandon_of_loading hl hne hd, newest_record (hkeeps _)]
    · rw [startLoading_slot, if_neg hm, abandon_slot_of_not_named hnot]
    · have hstands : s.abandon n = s := by
        rcases s.abandon_cases n with h | ⟨l, d, hl, hne, -⟩
        · exact h
        · rw [hl] at hnone
          simp [hne] at hnone
      rw [hstands]
      rfl

end Sys2Proof.Safety

namespace Sys2Proof.Machine

/-! ### The tests of a curve (R92, R100) -/

theorem yRangeGood_iff (k : CurveKind) (ys : List Int) :
    yRangeGood k ys = true ↔ ∀ y ∈ ys, k.yRange.1 ≤ y ∧ y ≤ k.yRange.2 := by
  simp [yRangeGood]

theorem pairGood_iff (k : CurveKind) (a b : Int) : pairGood k a b = true ↔ if k = .ceiling then b ≤ a else a ≤ b := by
  cases k <;> simp [pairGood]

/-- The direction of a curve asked of each pair of neighbours (R92). -/
theorem shapeGood_iff (k : CurveKind) (ys : List Int) : shapeGood k ys = true
    ↔ ∀ (i : Nat) (y z : Int), ys[i]? = some y → ys[i + 1]? = some z → if k = .ceiling then z ≤ y else y ≤ z := by
  induction ys with
  | nil => simp [shapeGood]
  | cons a ys ih =>
    cases ys with
    | nil => simp [shapeGood]
    | cons b ys =>
      rw [shapeGood, Bool.and_eq_true, pairGood_iff, ih]
      constructor
      · rintro ⟨hpair, hrest⟩ i y z hy hz
        cases i with
        | zero =>
          obtain rfl := Option.some.inj hy
          obtain rfl := Option.some.inj hz
          exact hpair
        | succ i => exact hrest i y z hy hz
      · exact fun h => ⟨h 0 a b rfl rfl, fun i y z hy hz => h (i + 1) y z hy hz⟩

/-! ### CURVE DATA (R98 to R100) -/

theorem curveDataEffect_of_nil {args : List Word} (h : args = []) (s : State) : curveDataEffect args s = (s, refuse .format) := by
  rw [curveDataEffect, if_pos (by rw [h]; rfl)]

theorem curveDataEffect_of_no_load {args : List Word} (h : args ≠ []) {s : State} (hl : s.cs.cursor = none) :
    curveDataEffect args s = (s, refuse .state) := by
  have hlength : args.length ≠ 0 := fun e => h (List.length_eq_zero_iff.1 e)
  simp only [curveDataEffect, hlength, if_false, hl]

theorem curveDataEffect_of_long {args : List Word} {s : State} {l : LoadCursor} {d : CurveData} (hargs : args ≠ [])
    (hl : s.cs.cursor = some l) (hd : s.cs.slots.get l.slot = .loading d) (h : 17 < l.cursor + args.length) :
    curveDataEffect args s = (s, { status := .length, more := false, words := [Word.ofNatural l.slot.val, Word.ofNatural l.cursor] }) := by
  have hlength : args.length ≠ 0 := fun e => hargs (List.length_eq_zero_iff.1 e)
  simp only [curveDataEffect, hlength, if_false, hl, hd, h, if_true]

section
variable {args : List Word} {s : State} {l : LoadCursor} {d e : CurveData} (hargs : args ≠ []) (hl : s.cs.cursor = some l)
  (hd : s.cs.slots.get l.slot = .loading d) (he : e = { d with ys := d.ys ++ args.map BitVec.toInt })
include hargs hl hd he

theorem curveDataEffect_of_short (h : l.cursor + args.length < 17) : curveDataEffect args s
    = (s.withCs {
        slots := s.cs.slots.set l.slot.val (.loading e) l.slot.isLt
        cursor := some { slot := l.slot, cursor := l.cursor + args.length } },
      done false [Word.ofNatural l.slot.val, Word.ofNatural (l.cursor + args.length)]) := by
  have hlength : args.length ≠ 0 := fun e => hargs (List.length_eq_zero_iff.1 e)
  subst he
  simp only [curveDataEffect, hlength, if_false, hl, hd, show ¬ 17 < l.cursor + args.length by omega, Nat.ne_of_lt h]
  rfl

theorem curveDataEffect_of_close (h : l.cursor + args.length = 17) : curveDataEffect args s
    = ((s.withCs { slots := s.cs.slots.set l.slot.val (closeCurve e) l.slot.isLt, cursor := none }).closeRecord l.slot
        (closeCurve e),
      done false [Word.ofNatural l.slot.val, 17, Word.ofNatural ((closeCurve e).stateCode + (closeCurve e).reasonCode * 4)]) := by
  have hlength : args.length ≠ 0 := fun e => hargs (List.length_eq_zero_iff.1 e)
  subst he
  simp only [curveDataEffect, hlength, if_false, hl, hd, h, if_true]
  rfl

end

/-- How a curve closes, by its two tests (R100). -/
theorem closeCurve_valid {e : CurveData} (hrange : yRangeGood e.kind e.ys = true) (hshape : shapeGood e.kind e.ys = true) :
    closeCurve e = .valid e := by
  rw [closeCurve, if_neg (by simp [hrange]), if_neg (by simp [hshape])]

theorem closeCurve_invalid {e : CurveData} {why : InvalidReason} (h : (why = .range ∧ yRangeGood e.kind e.ys = false)
    ∨ (why = .shape ∧ yRangeGood e.kind e.ys = true ∧ shapeGood e.kind e.ys = false)) : closeCurve e = .invalid why e := by
  rcases h with ⟨rfl, hrange⟩ | ⟨rfl, hrange, hshape⟩
  · rw [closeCurve, if_pos hrange]
  · rw [closeCurve, if_neg (by simp [hrange]), if_pos hshape]

end Sys2Proof.Machine

namespace Sys2Proof.Safety

open Sys2Proof.Machine

/-- Settles O44. -/
theorem curveDataExtendsAndClosesTheLoad : Obligations.CurveDataExtendsAndClosesTheLoad := by
  refine ⟨fun k ys lo hi hbounds => ⟨?_, shapeGood_iff k ys⟩, fun r s ht => ⟨fun hnil => ?_, fun hargs hnone => ?_,
    fun l d e hargs hl hd he => ⟨fun hlong => ?_, fun hshort => ?_, fun hclose hrange hshape => ?_, fun why hclose hwhy => ?_⟩⟩⟩
  · have hrange : (lo, hi) = k.yRange := by
      rw [hbounds]
      cases k <;> rfl
    obtain ⟨rfl, rfl⟩ := Prod.mk.inj hrange
    exact yRangeGood_iff k ys
  · exact exec_row (t := s) (reply := refuse .format) rfl ht (curveDataEffect_of_nil hnil _)
  · exact exec_row (t := s) (reply := refuse .state) rfl ht (curveDataEffect_of_no_load (s := heard s) hargs hnone)
  · exact exec_row (t := s)
      (reply := { status := .length, more := false, words := [Word.ofNatural l.slot.val, Word.ofNatural l.cursor] }) rfl ht
      (curveDataEffect_of_long (s := heard s) hargs hl hd hlong)
  · exact exec_row (reply := done false [Word.ofNatural l.slot.val, Word.ofNatural (l.cursor + r.args.length)]) rfl ht
      (curveDataEffect_of_short (s := heard s) hargs hl hd he hshort)
  · have heffect := curveDataEffect_of_close (s := heard s) hargs hl hd he hclose
    rw [closeCurve_valid hrange hshape] at heffect
    exact exec_row (reply := done false [Word.ofNatural l.slot.val, 17, 2]) rfl ht heffect
  · have heffect := curveDataEffect_of_close (s := heard s) hargs hl hd he hclose
    have hheard (x : CurveStore) : (heard s).withCs x = heard (s.withCs x) := rfl
    rw [closeCurve_invalid hwhy, State.closeRecord, hheard, beside_heard.record] at heffect
    exact exec_row (reply := done false [Word.ofNatural l.slot.val, 17, Word.ofNatural (3 + why.code * 4)]) rfl ht heffect

end Sys2Proof.Safety

namespace Sys2Proof.Machine

/-! ### The evaluation of a curve (R93, R94) -/

/-- The floor interpolation between two points, f of a step from the first (R93). -/
def interpolate (a b f step : Int) : Int := a + (b - a) * f / step

theorem interpolate_zero (a b step : Int) : interpolate a b 0 step = a := by
  simp [interpolate]

theorem interpolate_step (a b : Int) {step : Int} (h : 0 < step) : interpolate a b step step = b := by
  rw [interpolate, Int.mul_ediv_cancel _ (Int.ne_of_gt h)]
  omega

/-- Between two points the interpolation moves from the first to the second without turning back. -/
theorem interpolate_le {a b f g step : Int} (hstep : 0 < step) (hfg : f ≤ g) (hab : a ≤ b) :
    interpolate a b f step ≤ interpolate a b g step :=
  Int.add_le_add_left (Int.ediv_le_ediv hstep (Int.mul_le_mul_of_nonneg_left hfg (by omega))) a

theorem interpolate_ge {a b f g step : Int} (hstep : 0 < step) (hfg : f ≤ g) (hab : b ≤ a) :
    interpolate a b g step ≤ interpolate a b f step :=
  Int.add_le_add_left (Int.ediv_le_ediv hstep (Int.mul_le_mul_of_nonpos_left (by omega) hfg)) a

/-- The interpolation lies between its two points. -/
theorem interpolate_bounds {a b f step lo hi : Int} (hstep : 0 < step) (hf : 0 ≤ f) (hf' : f ≤ step) (ha : lo ≤ a ∧ a ≤ hi)
    (hb : lo ≤ b ∧ b ≤ hi) : lo ≤ interpolate a b f step ∧ interpolate a b f step ≤ hi := by
  rcases Int.le_total a b with hab | hab
  · have h0 := interpolate_le hstep hf hab
    have h1 := interpolate_le hstep hf' hab
    rw [interpolate_zero] at h0
    rw [interpolate_step a b hstep] at h1
    omega
  · have h0 := interpolate_ge hstep hf hab
    have h1 := interpolate_ge hstep hf' hab
    rw [interpolate_zero] at h0
    rw [interpolate_step a b hstep] at h1
    omega

section
variable (d : CurveData)

theorem CurveData.step_pos : (0 : Int) < 2 ^ d.shift := Int.pow_pos (by decide)

theorem CurveData.eval_of_low {x : Int} (h : x ≤ d.x0) : d.eval x = d.y 0 := if_pos (by omega)

theorem CurveData.eval_of_high {x : Int} (h : d.x0 + 16 * 2 ^ d.shift ≤ x) : d.eval x = d.y 16 := by
  have hpos := d.step_pos
  simp only [CurveData.eval]
  rw [if_neg (by omega), if_pos (by omega)]

/-- Inside the grid: f beyond grid point i (R93). -/
theorem CurveData.eval_of_inside {x f : Int} {i : Nat} (hi : i ≤ 15) (hf : 0 ≤ f) (hf' : f < 2 ^ d.shift)
    (hx : x = d.x0 + i * 2 ^ d.shift + f) : d.eval x = interpolate (d.y i) (d.y (i + 1)) f (2 ^ d.shift) := by
  obtain ⟨step, hstep⟩ : ∃ n : Int, n = 2 ^ d.shift := ⟨_, rfl⟩
  have hpos : 0 < step := hstep ▸ d.step_pos
  rw [← hstep] at hf' hx ⊢
  have hi0 : 0 ≤ (i : Int) * step := Int.mul_nonneg (by omega) (Int.le_of_lt hpos)
  have hi15 : (i : Int) * step ≤ 15 * step := Int.mul_le_mul_of_nonneg_right (by omega) (Int.le_of_lt hpos)
  have hplace : (x - d.x0) / step = i := by
    rw [show x - d.x0 = f + i * step by omega, Int.add_mul_ediv_right _ _ (Int.ne_of_gt hpos), Int.ediv_eq_zero_of_lt hf hf', Int.zero_add]
  simp only [CurveData.eval, ← hstep]
  repeat' split
  · have hf0 : f = 0 := by omega
    have hzero : (i : Int) * step = 0 := by omega
    have hi : i = 0 := by
      rcases Int.mul_eq_zero.1 hzero with h | h
      · omega
      · omega
    rw [hf0, hi, interpolate_zero]
  · omega
  · rw [hplace, Int.toNat_natCast, show x - d.x0 - i * step = f by omega]
    rfl

/-- Where an evaluation reads a curve: after which grid point, and how far beyond it. Below the grid it is its first point,
beyond the grid the end of its last step. -/
structure CurveData.Reads (x : Int) (i : Nat) (f : Int) : Prop where
  le : i ≤ 15
  nonneg : 0 ≤ f
  le_step : f ≤ 2 ^ d.shift
  lt_step : i < 15 → f < 2 ^ d.shift
  place : i * 2 ^ d.shift + f = max 0 (min (16 * 2 ^ d.shift) (x - d.x0))
  eval : d.eval x = interpolate (d.y i) (d.y (i + 1)) f (2 ^ d.shift)

theorem CurveData.exists_reads (x : Int) : ∃ i f, d.Reads x i f := by
  obtain ⟨step, hstep⟩ : ∃ n : Int, n = 2 ^ d.shift := ⟨_, rfl⟩
  have hpos : 0 < step := hstep ▸ d.step_pos
  rcases int_le_or_lt x d.x0 with hlow | hlow
  · refine ⟨0, 0, by omega, Int.le_refl _, Int.le_of_lt d.step_pos, fun _ => d.step_pos, ?_, ?_⟩
    · rw [← hstep]
      omega
    · rw [interpolate_zero, d.eval_of_low hlow]
  rcases int_le_or_lt (d.x0 + 16 * step) x with hhigh | hhigh
  · refine ⟨15, 2 ^ d.shift, Nat.le_refl _, Int.le_of_lt d.step_pos, Int.le_refl _, by omega, ?_, ?_⟩
    · rw [← hstep]
      omega
    · rw [interpolate_step _ _ d.step_pos, d.eval_of_high (hstep ▸ hhigh)]
  · have hf := Int.emod_nonneg (x - d.x0) (Int.ne_of_gt hpos)
    have hf' := Int.emod_lt_of_pos (x - d.x0) hpos
    have hsplit := Int.mul_ediv_add_emod (x - d.x0) step
    have hdiv : 0 ≤ (x - d.x0) / step := Int.ediv_nonneg (by omega) (Int.le_of_lt hpos)
    have hdiv' : (x - d.x0) / step < 16 := Int.ediv_lt_of_lt_mul hpos (by omega)
    obtain ⟨i, hi⟩ : ∃ i : Nat, (i : Int) = (x - d.x0) / step := ⟨_, Int.toNat_of_nonneg hdiv⟩
    rw [← hi, Int.mul_comm] at hsplit
    refine ⟨i, (x - d.x0) % step, by omega, hf, hstep ▸ Int.le_of_lt hf', fun _ => hstep ▸ hf', ?_, ?_⟩
    · rw [← hstep]
      omega
    · exact d.eval_of_inside (by omega) hf (hstep ▸ hf') (by rw [← hstep]; omega)

/-- The value of an evaluation lies within any bounds of the points (R94). -/
theorem CurveData.eval_bounds {lo hi : Int} (h : ∀ i, i ≤ 16 → lo ≤ d.y i ∧ d.y i ≤ hi) (x : Int) :
    lo ≤ d.eval x ∧ d.eval x ≤ hi := by
  obtain ⟨i, f, hr⟩ := d.exists_reads x
  have hi := hr.le
  rw [hr.eval]
  exact interpolate_bounds d.step_pos hr.nonneg hr.le_step (h i (by omega)) (h (i + 1) (by omega))

variable {d}

/-- A larger x is read no earlier on the curve. -/
theorem CurveData.Reads.ordered {x z f g : Int} {i j : Nat} (hx : d.Reads x i f) (hz : d.Reads z j g) (hxz : x ≤ z) :
    i < j ∨ (i = j ∧ f ≤ g) := by
  obtain ⟨step, hstep⟩ : ∃ n : Int, n = 2 ^ d.shift := ⟨_, rfl⟩
  have hpos : 0 < step := hstep ▸ d.step_pos
  have hxp := hx.place
  have hzp := hz.place
  have hf := hx.nonneg
  have hi := hx.le
  have hg := hz.lt_step
  rw [← hstep] at hxp hzp hg
  rcases Nat.lt_trichotomy i j with hij | rfl | hij
  · exact .inl hij
  · exact .inr ⟨rfl, by omega⟩
  · have hmul : ((j : Int) + 1) * step ≤ i * step := Int.mul_le_mul_of_nonneg_right (by omega) (Int.le_of_lt hpos)
    have hlt := hg (by omega)
    rw [Int.add_mul] at hmul
    omega

/-- Points that keep one direction, in which the interpolation keeps it too, are evaluated in that direction. -/
theorem CurveData.eval_along {r : Int → Int → Prop} (hrefl : ∀ a, r a a) (htrans : ∀ a b c, r a b → r b c → r a c)
    (hinter : ∀ a b f g : Int, r a b → f ≤ g → r (interpolate a b f (2 ^ d.shift)) (interpolate a b g (2 ^ d.shift)))
    (hy : ∀ i, i ≤ 15 → r (d.y i) (d.y (i + 1))) {x z : Int} (hxz : x ≤ z) : r (d.eval x) (d.eval z) := by
  obtain ⟨i, f, hx⟩ := d.exists_reads x
  obtain ⟨j, g, hz⟩ := d.exists_reads z
  rw [hx.eval, hz.eval]
  rcases hx.ordered hz hxz with hij | ⟨rfl, hfg⟩
  · have hfirst := hinter _ _ f (2 ^ d.shift) (hy i hx.le) hx.le_step
    have hlast := hinter _ _ 0 g (hy j hz.le) hz.nonneg
    rw [interpolate_step _ _ d.step_pos] at hfirst
    rw [interpolate_zero] at hlast
    have hpoints (n : Nat) : i + 1 + n ≤ 16 → r (d.y (i + 1)) (d.y (i + 1 + n)) := by
      induction n with
      | zero => exact fun _ => hrefl _
      | succ n ih => exact fun h => htrans _ _ _ (ih (by omega)) (hy (i + 1 + n) (by omega))
    have hmiddle := hpoints (j - (i + 1)) (by have := hz.le; omega)
    rw [Nat.add_sub_cancel' hij] at hmiddle
    exact htrans _ _ _ (htrans _ _ _ hfirst hmiddle) hlast
  · exact hinter _ _ f g (hy i hx.le) hfg

/-- The points of a curve of seventeen keep its kind's direction (R92). -/
theorem CurveData.y_direction (hlength : d.ys.length = 17) (hshape : shapeGood d.kind d.ys = true) {i : Nat} (hi : i ≤ 15) :
    if d.kind = .ceiling then d.y (i + 1) ≤ d.y i else d.y i ≤ d.y (i + 1) := by
  have hget (n : Nat) (hn : n < 17) : d.ys[n]? = some (d.y n) := by
    rw [CurveData.y, List.getD_eq_getElem?_getD, List.getElem?_eq_getElem (by omega)]
    rfl
  exact (shapeGood_iff _ _).1 hshape i _ _ (hget i (by omega)) (hget (i + 1) (by omega))

end

/-! ### MAP WRITE (R133) -/

/-- The channels of a run take their words' entries, and every other channel stands. -/
theorem writeMap_get (m : Vector MapEntry 16) (first : Nat) (ws : List Word) (h : first + ws.length ≤ 16) (n : Fin 16) :
    (writeMap m first ws).get n = if first ≤ n.val ∧ n.val < first + ws.length then readMapEntry (ws.getD (n.val - first) 0)
      else m.get n := by
  induction ws generalizing m first with
  | nil => rw [writeMap, if_neg (by simp only [List.length_nil]; omega)]
  | cons w ws ih =>
    rw [List.length_cons] at h
    have hfirst : first < 16 := by omega
    rw [writeMap, dif_pos hfirst, ih _ _ (by omega), List.length_cons]
    rcases Nat.lt_trichotomy n.val first with hlt | heq | hgt
    · rw [if_neg (by omega), if_neg (by omega)]
      simp [get_eq_getElem, Vector.getElem_set_ne _ _ (Nat.ne_of_gt hlt)]
    · rw [if_neg (by omega), if_pos (by omega)]
      simp [get_eq_getElem, heq]
    · have hplace : n.val - first = n.val - (first + 1) + 1 := by omega
      rw [hplace, List.getD_cons_succ]
      by_cases hin : n.val < first + 1 + ws.length
      · rw [if_pos (by omega), if_pos (by omega)]
      · rw [if_neg (by omega), if_neg (by omega)]
        simp [get_eq_getElem, Vector.getElem_set_ne _ _ (Nat.ne_of_lt hgt)]

theorem mapClamped_iff (w : Word) : mapClamped w = true
    ↔ ¬ (-128 ≤ signedField 12 (bits w 0 12) ∧ signedField 12 (bits w 0 12) ≤ 127) := by
  simp only [mapClamped, bne_iff_ne, ne_eq, clamp]
  (repeat' split) <;> omega

theorem mapWriteEffect_of_range {args : List Word} (h : (arg args 1).toNat < 1 ∨ 16 < (arg args 0).toNat + (arg args 1).toNat)
    (s : State) : mapWriteEffect args s = (s, refuse .range) :=
  if_pos (by rw [← Bool.not_eq_true, runGood_iff]; omega)

section
variable {args : List Word} (hlow : 1 ≤ (arg args 1).toNat) (hrun : (arg args 0).toNat + (arg args 1).toNat ≤ 16)
include hlow hrun

theorem mapWriteEffect_of_kind (h : ∃ w ∈ args.drop 2, 12 < bits w 12 4) (s : State) :
    mapWriteEffect args s = (s, refuse .range) := by
  have hany : (args.drop 2).any (fun w => decide (12 < bits w 12 4)) = true := by
    simpa [List.any_eq_true] using h
  simp only [mapWriteEffect, (runGood_iff _ _).2 ⟨hlow, hrun⟩, Bool.true_eq_false, if_false, hany, if_true]

theorem mapWriteEffect_of_kinds (h : ∀ w ∈ args.drop 2, bits w 12 4 ≤ 12) {s : State} (hintake : s.inHand.intake = none)
    {m : Vector MapEntry 16} (hm : m = writeMap s.ti.map (arg args 0).toNat (args.drop 2)) : mapWriteEffect args s
      = (s.withTi { s.ti with map := m }, done ((args.drop 2).any mapClamped)
        (arg args 0 :: arg args 1 :: mapRun m (arg args 0).toNat (arg args 1).toNat)) := by
  have hany : (args.drop 2).any (fun w => decide (12 < bits w 12 4)) = false := by
    simpa using h
  subst hm
  simp only [mapWriteEffect, (runGood_iff _ _).2 ⟨hlow, hrun⟩, Bool.true_eq_false, if_false, hany, Bool.false_eq_true,
    State.settleIntake_none s hintake]

end

end Sys2Proof.Machine

namespace Sys2Proof.Safety

open Sys2Proof.Machine

/-- Settles O45. -/
theorem curveEvaluationFollowsItsPoints : Obligations.CurveEvaluationFollowsItsPoints := by
  refine fun d hlength => ⟨fun c n x hn => ?_, fun x => d.eval_of_low, fun x => d.eval_of_high,
    fun x i f hi hf hf' => d.eval_of_inside hi hf hf', fun lo hi x h => d.eval_bounds h x, fun hshape x z hxz => ?_⟩
  · simp only [CurveStore.eval, hn]
  · have hdirection (i : Nat) (hi : i ≤ 15) := CurveData.y_direction hlength hshape hi
    split
    · rename_i hkind
      simp only [hkind, if_true] at hdirection
      exact CurveData.eval_along (r := fun a b => b ≤ a) (fun _ => Int.le_refl _) (fun _ _ _ h h' => Int.le_trans h' h)
        (fun _ _ _ _ hab hfg => interpolate_ge d.step_pos hfg hab) hdirection hxz
    · rename_i hkind
      simp only [hkind, if_false] at hdirection
      exact CurveData.eval_along (r := fun a b => a ≤ b) (fun _ => Int.le_refl _) (fun _ _ _ h h' => Int.le_trans h h')
        (fun _ _ _ _ hab hfg => interpolate_le d.step_pos hfg hab) hdirection hxz

/-- Settles O46. -/
theorem mapWriteSetsARunOfChannels : Obligations.MapWriteSetsARunOfChannels := by
  refine ⟨obsOfCode_obsCode, rfl, fun r s ht hintake => ⟨fun hrange => ?_, fun hlow hrun hkind => ?_,
    fun hlow hrun hkinds => ⟨writeMap s.ti.map (arg r.args 0).toNat (r.args.drop 2), fun n => ?_, ?_⟩⟩⟩
  · exact exec_row (t := s) (reply := refuse .range) rfl ht (mapWriteEffect_of_range hrange _)
  · exact exec_row (t := s) (reply := refuse .range) rfl ht (mapWriteEffect_of_kind hlow hrun hkind _)
  · have hlength : (r.args.drop 2).length = (arg r.args 1).toNat := by
      obtain ⟨-, -, -, -, -, hgood⟩ := ht
      obtain ⟨-, -, -, -, -, -, -, -, -, htable⟩ := lengthGood_table 15 r.args
      have hlong := htable.1 hgood
      rw [List.length_drop]
      omega
    rw [writeMap_get _ _ _ (by omega), hlength]
    refine ite_congr rfl (fun hn => ?_) fun _ => rfl
    rw [show (r.args.drop 2).getD (n.val - (arg r.args 0).toNat) 0 = arg r.args (2 + n.val - (arg r.args 0).toNat) from
      (arg_drop ..).trans (by rw [Nat.add_sub_assoc hn.1])]
    rfl
  · refine (exec_row (t := s.withTi { s.ti with map := writeMap s.ti.map (arg r.args 0).toNat (r.args.drop 2) }) rfl ht
      (mapWriteEffect_of_kinds (s := heard s) hlow hrun hkinds hintake rfl)).trans ?_
    have hclamped : (r.args.drop 2).any mapClamped = true
        ↔ ¬ ∀ w ∈ r.args.drop 2, -128 ≤ signedField 12 (bits w 0 12) ∧ signedField 12 (bits w 0 12) ≤ 127 := by
      simp only [List.any_eq_true, mapClamped_iff, Classical.not_forall, exists_prop]
    rw [done_status, ite_cond_congr (propext hclamped), ite_not]
    rfl

end Sys2Proof.Safety
end

section
/-! PROOFS. What LOG READ takes and returns (O26), and the sections of STATE READ (O47). -/

namespace Sys2Proof.Machine

/-! ### The records a read takes (R158) -/

theorem recordsLength_cons (r : Record) (rs : List Record) : recordsLength (r :: rs) = r.length + recordsLength rs := by
  simp only [recordsLength, List.map_cons, List.sum_cons]

theorem takeRecords_fits (room : Nat) (rs : List Record) : recordsLength (takeRecords room rs).1 ≤ room := by
  induction rs generalizing room with
  | nil => exact Nat.zero_le room
  | cons r rs ih =>
    unfold takeRecords
    split
    · have := ih (room - r.length)
      rw [recordsLength_cons]
      omega
    · exact Nat.zero_le room

/-- The first record left has no place beside those taken. -/
theorem takeRecords_longest {room : Nat} {rs : List Record} {x : Record} {rest : List Record}
    (h : (takeRecords room rs).2 = x :: rest) : room < recordsLength (takeRecords room rs).1 + x.length := by
  induction rs generalizing room with
  | nil => cases h
  | cons r rs ih =>
    rw [takeRecords] at h ⊢
    by_cases hfits : r.length ≤ room
    · rw [if_pos hfits] at h ⊢
      have hrest := ih h
      rw [recordsLength_cons]
      omega
    · rw [if_neg hfits] at h ⊢
      obtain ⟨rfl, -⟩ := List.cons.inj h
      simp only [recordsLength_nil]
      omega

section
variable {args : List Word} {s : State}

theorem logReadEffect_of_range (h : (arg args 0).toNat < 1 ∨ 30 < (arg args 0).toNat) (s : State) :
    logReadEffect args s = (s, refuse .range) := if_pos h

variable {taken left : List Record} (hlow : 1 ≤ (arg args 0).toNat) (hhigh : (arg args 0).toNat ≤ 30)
  (htake : takeRecords (arg args 0).toNat s.ol.store = (taken, left))
include hlow hhigh htake

/-- A read that empties the log with 4 words to spare. -/
theorem logReadEffect_of_emptied (hleft : left = []) (hroom : recordsLength taken + 4 ≤ (arg args 0).toNat) :
    logReadEffect args s
      = (s.withOl { s.ol with store := [], fill := s.ol.fill - recordsLength taken, lost := 0, firstLoss := 0 },
        { status := .ok, more := false, words := recordsWords taken ++ timeRecord s.tg.counter s.ol.lost s.ol.firstLoss }) := by
  have hrange : ¬ ((arg args 0).toNat < 1 ∨ 30 < (arg args 0).toNat) := by omega
  simp only [logReadEffect, if_neg hrange, htake, if_pos (And.intro hleft hroom)]
  rw [hleft]

theorem logReadEffect_of_rest (h : left ≠ [] ∨ (arg args 0).toNat < recordsLength taken + 4) :
    logReadEffect args s = (s.withOl { s.ol with store := left, fill := s.ol.fill - recordsLength taken },
        { status := .ok, more := !left.isEmpty, words := recordsWords taken }) := by
  have hrange : ¬ ((arg args 0).toNat < 1 ∨ 30 < (arg args 0).toNat) := by omega
  have hmore : ¬ (left = [] ∧ recordsLength taken + 4 ≤ (arg args 0).toNat) := fun hall =>
    h.elim (fun hleft => hleft hall.1) (by omega)
  simp only [logReadEffect, if_neg hrange, htake, if_neg hmore]

end

/-! ### The fields of a packed word -/

/-- The kind of a record stands above its other fields. -/
theorem bits_recordHeader {kind rest : Nat} (hkind : kind ≤ 15) (hrest : rest < 4096) (lo len : Nat) :
    bits (recordHeader kind rest) lo len = (kind * 4096 + rest) / 2 ^ lo % 2 ^ len :=
  bits_ofNatural (by omega) lo len

theorem bit_recordHeader {kind rest : Nat} (hkind : kind ≤ 15) (hrest : rest < 4096) {k : Nat} {b : Bool}
    (h : (kind * 4096 + rest) / 2 ^ k % 2 = flagBit b) : bit (recordHeader kind rest) k = b :=
  bit_ofNatural_flag (by omega) h

/-- A number in two words, high word first. -/
theorem words2_value {n : Nat} (h : n < 4294967296) :
    (Word.ofNatural (n / 65536)).toNat * 65536 + (Word.ofNatural (n % 65536)).toNat = n := by
  rw [Word.toNat_ofNatural (by omega), Word.toNat_ofNatural (by omega)]
  omega

theorem signedField_powerField {q : Int} (hlow : -512 ≤ q) (hhigh : q ≤ 511) : signedField 10 (Power.on q).field = q :=
  signedField_field10 hlow hhigh

theorem GrantEntry.word_fields (g : GrantEntry) :
    bits g.word 14 2 = g.chain.val ∧ bits g.word 10 4 = g.reason.code ∧ bits g.word 0 10 = g.value.field := by
  have hchain := g.chain.isLt
  have hreason := g.reason.code_le
  have hfield := g.value.field_lt
  have hlt : g.chain.val * 16384 + g.reason.code * 1024 + g.value.field < 65536 := by omega
  unfold GrantEntry.word
  simp only [bits_ofNatural hlt]
  omega

/-! ### The words of the records, kind by kind (section 9.2) -/

section
variable {w : Nat → Word}

theorem Record.grant_fields {m : Bool} {slot : Nat} {es : List GrantEntry} {t : Nat}
    (hw : ∀ k, w k = (Record.grant m slot es t).words.getD k 0) (hslot : slot ≤ 1023) (hlength : es.length ≤ 4) :
    (Record.grant m slot es t).length = 2 + es.length ∧ bits (w 0) 12 4 = 1 ∧ bits (w 0) 9 3 = es.length ∧ bit (w 0) 8 = m
      ∧ bits (w 0) 0 8 = 0 ∧ (w 1).toNat = slot ∧ ∀ k g, es[k]? = some g → w (k + 2) = g.word := by
  have hflag := flagBit_le m
  have hrest : es.length * 512 + flagBit m * 256 < 4096 := by omega
  have hhead : w 0 = recordHeader 1 (es.length * 512 + flagBit m * 256) := hw 0
  simp only [hhead, bits_recordHeader (kind := 1) (by decide) hrest]
  refine ⟨rfl, by omega, by omega, bit_recordHeader (by decide) hrest (by omega), by omega, ?_, fun k g hk => ?_⟩
  · rw [show w 1 = Word.ofNatural slot from hw 1, Word.toNat_ofNatural (by omega)]
  · rw [hw]
    simp [Record.words, hk]

/-- The header that a ZONE and a MISMATCH record share. -/
theorem twoStates_header {kind who old new : Nat} (hkind : kind ≤ 15) (hwho : who ≤ 3) (hold : old ≤ 3) (hnew : new ≤ 3)
    {h : Word} (hh : h = recordHeader kind (who * 256 + old * 64 + new * 16)) :
    bits h 12 4 = kind ∧ bits h 10 2 = 0 ∧ bits h 8 2 = who ∧ bits h 6 2 = old ∧ bits h 4 2 = new ∧ bits h 0 4 = 0
      ∧ (who ≤ 1 → bits h 9 3 = 0 ∧ bits h 8 1 = who) := by
  have hrest : who * 256 + old * 64 + new * 16 < 4096 := by omega
  simp only [hh, bits_recordHeader hkind hrest]
  omega

theorem Record.zone_fields {m : Module} {old new : Zone} {θ : Int} {t : Nat}
    (hw : ∀ k, w k = (Record.zone m old new θ t).words.getD k 0) (hlow : -160 ≤ θ) (hhigh : θ ≤ 1623) (ht : t ≤ 65535) :
    (Record.zone m old new θ t).length = 3 ∧ bits (w 0) 12 4 = 2 ∧ bits (w 0) 9 3 = 0 ∧ bits (w 0) 8 1 = m.code
      ∧ bits (w 0) 6 2 = old.code ∧ bits (w 0) 4 2 = new.code ∧ bits (w 0) 0 4 = 0 ∧ (w 1).toInt = θ ∧ (w 2).toNat = t := by
  obtain ⟨hkind, -, -, hold, hnew, hzero, hmodule⟩ := twoStates_header (by decide) (Nat.le_trans m.code_le (by decide)) old.code_le
    new.code_le (hw 0)
  obtain ⟨hpad, hm⟩ := hmodule m.code_le
  refine ⟨rfl, hkind, hpad, hm, hold, hnew, hzero, ?_, ?_⟩
  · rw [show w 1 = Word.ofSigned θ from hw 1, Word.ofSigned_toInt _ (by omega) (by omega)]
  · rw [show w 2 = Word.ofNatural t from hw 2, Word.toNat_ofNatural (by omega)]

theorem Record.mismatch_fields {c : Chain} {old new : MismatchState} {rl : Int} {t : Nat}
    (hw : ∀ k, w k = (Record.mismatch c old new rl t).words.getD k 0) (hlow : -512 ≤ rl) (hhigh : rl ≤ 340) (ht : t ≤ 65535) :
    (Record.mismatch c old new rl t).length = 3 ∧ bits (w 0) 12 4 = 3 ∧ bits (w 0) 10 2 = 0 ∧ bits (w 0) 8 2 = c.val
      ∧ bits (w 0) 6 2 = old.code ∧ bits (w 0) 4 2 = new.code ∧ bits (w 0) 0 4 = 0 ∧ (w 1).toInt = rl ∧ (w 2).toNat = t := by
  obtain ⟨hkind, hpad, hc, hold, hnew, hzero, -⟩ := twoStates_header (by decide) (Nat.le_of_lt_succ c.isLt) old.code_le
    new.code_le (hw 0)
  refine ⟨rfl, hkind, hpad, hc, hold, hnew, hzero, ?_, ?_⟩
  · rw [show w 1 = Word.ofSigned rl from hw 1, Word.ofSigned_toInt _ (by omega) (by omega)]
  · rw [show w 2 = Word.ofNatural t from hw 2, Word.toNat_ofNatural (by omega)]

/-- The header that a CHARGE and a FLIP record share. -/
theorem twoBits_header {kind high low : Nat} (hkind : kind ≤ 15) (hhigh : high ≤ 1) (hlow : low ≤ 1) {h : Word}
    (hh : h = recordHeader kind (high * 2 + low)) :
    bits h 12 4 = kind ∧ bits h 2 10 = 0 ∧ bits h 1 1 = high ∧ bits h 0 1 = low := by
  have hrest : high * 2 + low < 4096 := by omega
  simp only [hh, bits_recordHeader hkind hrest]
  omega

theorem Record.charge_fields {old new : ChargeState} {sum t : Nat} (hw : ∀ k, w k = (Record.charge old new sum t).words.getD k 0)
    (hsum : sum ≤ 268435440) :
    (Record.charge old new sum t).length = 3 ∧ bits (w 0) 12 4 = 4 ∧ bits (w 0) 2 10 = 0 ∧ bits (w 0) 1 1 = old.code
      ∧ bits (w 0) 0 1 = new.code ∧ (w 1).toNat * 65536 + (w 2).toNat = sum := by
  obtain ⟨hkind, hpad, hold, hnew⟩ := twoBits_header (by decide) old.code_le new.code_le (hw 0)
  refine ⟨rfl, hkind, hpad, hold, hnew, ?_⟩
  rw [show w 1 = Word.ofNatural (sum / 65536) from hw 1, show w 2 = Word.ofNatural (sum % 65536) from hw 2,
    words2_value (by omega)]

theorem Record.flip_fields {b : Fin 2} {p : FlipPoint} {t : Nat} (hw : ∀ k, w k = (Record.flip b p t).words.getD k 0)
    (ht : t ≤ 65535) :
    (Record.flip b p t).length = 2 ∧ bits (w 0) 12 4 = 6 ∧ bits (w 0) 2 10 = 0 ∧ bits (w 0) 1 1 = b.val
      ∧ bits (w 0) 0 1 = p.code ∧ (w 1).toNat = t := by
  obtain ⟨hkind, hpad, hb, hp⟩ := twoBits_header (by decide) (Nat.le_of_lt_succ b.isLt) p.code_le (hw 0)
  refine ⟨rfl, hkind, hpad, hb, hp, ?_⟩
  rw [show w 1 = Word.ofNatural t from hw 1, Word.toNat_ofNatural (by omega)]

theorem Record.reading_fields {k : ObsKind} {v : Int} {t : Nat} (hw : ∀ j, w j = (Record.reading k v t).words.getD j 0)
    (hlow : -200 ≤ v) (hhigh : v ≤ 4095) :
    (Record.reading k v t).length = 2 ∧ bits (w 0) 12 4 = 5 ∧ bits (w 0) 4 8 = 0 ∧ bits (w 0) 0 4 = obsCode k
      ∧ (w 1).toInt = v := by
  obtain ⟨-, hcode⟩ := obsCode_le k
  have hrest : obsCode k < 4096 := by omega
  have hhead : w 0 = recordHeader 5 (obsCode k) := hw 0
  simp only [hhead, bits_recordHeader (kind := 5) (by decide) hrest]
  refine ⟨rfl, by omega, by omega, by omega, ?_⟩
  rw [show w 1 = Word.ofSigned v from hw 1, Word.ofSigned_toInt _ (by omega) (by omega)]

theorem Record.stale_fields {gone : Bool} {k : ObsKind} {t : Nat} (hw : ∀ j, w j = (Record.stale gone k t).words.getD j 0)
    (ht : t ≤ 65535) :
    (Record.stale gone k t).length = 2 ∧ bits (w 0) 12 4 = 7 ∧ bits (w 0) 5 7 = 0 ∧ bit (w 0) 4 = gone
      ∧ bits (w 0) 0 4 = obsCode k ∧ (w 1).toNat = t := by
  obtain ⟨-, hcode⟩ := obsCode_le k
  have hflag := flagBit_le gone
  have hrest : flagBit gone * 16 + obsCode k < 4096 := by omega
  have hhead : w 0 = recordHeader 7 (flagBit gone * 16 + obsCode k) := hw 0
  simp only [hhead, bits_recordHeader (kind := 7) (by decide) hrest]
  refine ⟨rfl, by omega, by omega, bit_recordHeader (by decide) hrest (by omega), by omega, ?_⟩
  rw [show w 1 = Word.ofNatural t from hw 1, Word.toNat_ofNatural (by omega)]

/-- The header of a LINK and of a RESET record. -/
theorem oneCode_header {kind code : Nat} (hkind : kind ≤ 15) (hcode : code ≤ 3) {h : Word} (hh : h = recordHeader kind code) :
    bits h 12 4 = kind ∧ bits h 2 10 = 0 ∧ bits h 0 2 = code := by
  have hrest : code < 4096 := by omega
  simp only [hh, bits_recordHeader hkind hrest]
  omega

theorem Record.curve_fields {n : Fin 16} {why : InvalidReason} {t : Nat} (hw : ∀ k, w k = (Record.curve n why t).words.getD k 0) :
    (Record.curve n why t).length = 1 ∧ bits (w 0) 12 4 = 9 ∧ bits (w 0) 6 6 = 0 ∧ bits (w 0) 2 4 = n.val
      ∧ bits (w 0) 0 2 = why.code := by
  have hn := n.isLt
  have hwhy := why.code_le
  have hrest : n.val * 4 + why.code < 4096 := by omega
  have hhead : w 0 = recordHeader 9 (n.val * 4 + why.code) := hw 0
  simp only [hhead, bits_recordHeader (kind := 9) (by decide) hrest]
  exact ⟨rfl, by omega⟩

theorem timeRecord_fields {counter lost first : Nat} (hw : ∀ k, w k = (timeRecord counter lost first).getD k 0)
    (hcounter : counter ≤ 16777215) (hlost : lost ≤ 65535) (hfirst : first ≤ 65535) :
    (timeRecord counter lost first).length = 4 ∧ bits (w 0) 12 4 = 11 ∧ bits (w 0) 8 4 = 0
      ∧ bits (w 0) 0 8 * 65536 + (w 1).toNat = counter ∧ (w 2).toNat = lost
      ∧ (w 3).toNat = if lost = 0 then 0 else first := by
  have hrest : counter / 65536 < 4096 := by omega
  have hhead : w 0 = recordHeader 11 (counter / 65536) := hw 0
  have hstamp : (if lost = 0 then 0 else first) < 65536 := by (repeat' split) <;> omega
  simp only [hhead, bits_recordHeader (kind := 11) (by decide) hrest]
  refine ⟨rfl, by omega, by omega, ?_, ?_, ?_⟩
  · rw [show w 1 = Word.ofNatural (counter % 65536) from hw 1, Word.toNat_ofNatural (by omega)]
    omega
  · rw [show w 2 = Word.ofNatural lost from hw 2, Word.toNat_ofNatural (by omega)]
  · rw [show w 3 = Word.ofNatural (if lost = 0 then 0 else first) from hw 3, Word.toNat_ofNatural hstamp]

end

/-! ### The sections of STATE READ (R179) -/

theorem sectionWords_of_high (s : State) {n : Nat} (h : 4 < n) : s.sectionWords n = none := by
  unfold State.sectionWords
  split <;> first | omega | rfl

theorem bucketWords_length {xs : List Nat} {n : Nat} (h : xs.length = 2 * n) : (bucketWords xs).length = 3 * n := by
  induction n generalizing xs with
  | zero =>
    obtain rfl := List.eq_nil_of_length_eq_zero h
    rfl
  | succ n ih =>
    match xs, h with
    | a :: b :: rest, h =>
      have := ih (xs := rest) (by simp only [List.length_cons] at h; omega)
      simp only [bucketWords, List.length_append, List.length_cons, List.length_nil, this]
      omega

/-- Bucket pair j of the list stands in words 3j to 3j + 2. -/
theorem bucketWords_pair {xs : List Nat} {j a b : Nat} (ha : xs[2 * j]? = some a) (hb : xs[2 * j + 1]? = some b) :
    (bucketWords xs)[3 * j]? = some (Word.ofNatural (a / 256))
      ∧ (bucketWords xs)[3 * j + 1]? = some (Word.ofNatural (a % 256 * 256 + b / 65536))
      ∧ (bucketWords xs)[3 * j + 2]? = some (Word.ofNatural (b % 65536)) := by
  induction j generalizing xs with
  | zero =>
    match xs, ha, hb with
    | x :: y :: rest, ha, hb =>
      obtain rfl : x = a := by simpa using ha
      obtain rfl : y = b := by simpa using hb
      exact ⟨rfl, rfl, rfl⟩
  | succ j ih =>
    match xs, ha, hb with
    | x :: y :: rest, ha, hb =>
      exact ih (xs := rest) ha hb
    | [x], ha, hb => simp [Nat.mul_succ] at ha

/-- Two buckets of 24 bits in three words. -/
theorem bucket_words {a b : Nat} (ha : a ≤ bucketMax) (hb : b ≤ bucketMax) :
    a = (Word.ofNatural (a / 256)).toNat * 256 + bits (Word.ofNatural (a % 256 * 256 + b / 65536)) 8 8
      ∧ b = bits (Word.ofNatural (a % 256 * 256 + b / 65536)) 0 8 * 65536 + (Word.ofNatural (b % 65536)).toNat := by
  unfold bucketMax at ha hb
  rw [bits_ofNatural (by omega), bits_ofNatural (by omega), Word.toNat_ofNatural (by omega), Word.toNat_ofNatural (by omega)]
  omega

theorem chainWords_get (s : State) (c : Chain) {k : Nat} (hk : k < 5) :
    (s.chainWords 0 ++ s.chainWords 1 ++ s.chainWords 2 ++ s.chainWords 3).getD (5 * c.val + k) 0
      = (s.chainWords c).getD k 0 := by
  have hflat : s.chainWords 0 ++ s.chainWords 1 ++ s.chainWords 2 ++ s.chainWords 3
      = (([0, 1, 2, 3] : List Chain).map s.chainWords).flatten := by
    simp only [List.map_cons, List.map_nil, List.flatten_cons, List.flatten_nil, List.append_nil, List.append_assoc]
  have hchain : ([0, 1, 2, 3] : List Chain)[c.val]'c.isLt = c := by
    match c with
    | 0 | 1 | 2 | 3 => rfl
  rw [hflat, List.getD_eq_getElem?_getD, List.getD_eq_getElem?_getD,
    getElem?_flatten_map (f := s.chainWords) (m := 5) (fun _ => rfl) [0, 1, 2, 3] c.isLt hk, hchain]

theorem obsAll_getElem? (k : ObsKind) : obsAll[(obsIndex k).val]? = some k := by
  cases k with
  | dieA | dieB | board | battV => rfl
  | fwd c | refl c => match c with | 0 | 1 | 2 | 3 => rfl

/-! ### The packed words of the sections, field by field -/

theorem general_word0 {mode quiet flip point active held code : Nat} (hmode : mode ≤ 2) (hquiet : quiet ≤ 1) (hflip : flip ≤ 1)
    (hpoint : point ≤ 1) (hactive : active ≤ 1) (hheld : held ≤ 1) (hcode : code ≤ 7) {n : Nat}
    (hn : n = mode + quiet * 4 + flip * 8 + point * 16 + active * 32 + held * 64 + code * 256) :
    n < 65536 ∧ n % 4 = mode ∧ n / 4 % 2 = quiet ∧ n / 8 % 2 = flip ∧ n / 16 % 2 = point ∧ n / 32 % 2 = active
      ∧ n / 64 % 2 = held ∧ n / 256 % 8 = code := by
  omega

theorem chain_word0 {state confirm improving probe valid : Nat} (hstate : state ≤ 3) (hconfirm : confirm ≤ 14)
    (himproving : improving ≤ 1) (hprobe : probe ≤ 1) (hvalid : valid ≤ 1) {n : Nat}
    (hn : n = state + confirm * 4 + improving * 64 + probe * 128 + valid * 256) :
    n < 65536 ∧ n % 4 = state ∧ n / 4 % 16 = confirm ∧ n / 64 % 2 = improving ∧ n / 128 % 2 = probe ∧ n / 256 % 2 = valid := by
  omega

/-- Two bytes in one word. -/
theorem bytes_word {high low : Nat} (hhigh : high ≤ 255) (hlow : low ≤ 255) {w : Word}
    (hw : w = Word.ofNatural (high * 256 + low)) : bits w 8 8 = high ∧ bits w 0 8 = low := by
  have hlt : high * 256 + low < 65536 := by omega
  rw [hw, bits_ofNatural hlt, bits_ofNatural hlt]
  omega

theorem Mode.code_le (m : Mode) : m.code ≤ 2 := by cases m <;> decide

theorem State.supplyFromCurve_eq (s : State) :
    (!s.supplyFromCurve) = (s.cb.activeBank.header.supply == .none || !s.isFresh .battV) := by
  unfold State.supplyFromCurve
  cases s.cb.activeBank.header.supply <;> rfl

theorem ofSigned_toNat {i : Int} (hlow : 0 ≤ i) (hhigh : i ≤ 8191) : ((Word.ofSigned i).toNat : Int) = i := by
  rw [Word.ofSigned, BitVec.toNat_ofInt]
  omega

end Sys2Proof.Machine

namespace Sys2Proof.Safety

open Sys2Proof.Machine

/-- Settles O26: the store splits into the records taken and the records left, and each kind of record has its fields. -/
theorem logReadDrainsWholeRecords : Obligations.LogReadDrainsWholeRecords := by
  refine ⟨fun r s ht => ⟨fun hrange => ?_, fun hlow hhigh => ?_⟩, by decide, fun r rs => ⟨rfl, rfl, r.words_length⟩,
    fun g q hlow hhigh => ?_, fun r w hw => ⟨?_, ?_, ?_, ?_, ?_, ?_, ?_, ?_, ?_, ?_⟩, fun _ _ _ _ => timeRecord_fields⟩
  · exact exec_row (t := s) (reply := refuse .range) rfl ht (logReadEffect_of_range hrange _)
  · obtain ⟨taken, left, htake⟩ : ∃ taken left, takeRecords (arg r.args 0).toNat s.ol.store = (taken, left) := ⟨_, _, rfl⟩
    refine ⟨taken, left, ?_, ?_, fun x rest hleft => ?_, fun hleft hroom => ?_, fun hrest => ?_⟩
    · rw [← takeRecords_append (arg r.args 0).toNat s.ol.store, htake]
    · simpa only [htake] using takeRecords_fits (arg r.args 0).toNat s.ol.store
    · simpa only [htake] using takeRecords_longest (room := (arg r.args 0).toNat) ((congrArg Prod.snd htake).trans hleft)
    · exact exec_row
        (t := s.withOl { s.ol with store := [], fill := s.ol.fill - recordsLength taken, lost := 0, firstLoss := 0 })
        (reply := ⟨.ok, false, recordsWords taken ++ timeRecord s.tg.counter s.ol.lost s.ol.firstLoss⟩)
        (exec_logRead r s) ht (logReadEffect_of_emptied (s := heard s) hlow hhigh htake hleft hroom)
    · exact exec_row (t := s.withOl { s.ol with store := left, fill := s.ol.fill - recordsLength taken })
        (reply := ⟨.ok, !left.isEmpty, recordsWords taken⟩)
        (exec_logRead r s) ht (logReadEffect_of_rest (s := heard s) hlow hhigh htake hrest)
  · obtain ⟨hchain, hreason, hfield⟩ := g.word_fields
    rw [hfield]
    exact ⟨hchain, hreason, fun hoff => by rw [hoff]; rfl,
      fun hon => by rw [hon, signedField_powerField (by omega) (by omega)]⟩
  · rintro m slot es t rfl
    exact Record.grant_fields hw
  · rintro m old new θ t rfl
    exact Record.zone_fields hw
  · rintro c old new rl t rfl
    exact Record.mismatch_fields hw
  · rintro old new sum t rfl
    exact Record.charge_fields hw
  · rintro k v t rfl
    exact Record.reading_fields hw
  · rintro b p t rfl
    exact Record.flip_fields hw
  · rintro gone k t rfl
    exact Record.stale_fields hw
  · rintro e t rfl
    exact ⟨rfl, oneCode_header (by decide) e.code_le (hw 0)⟩
  · rintro n why t rfl
    exact Record.curve_fields hw
  · rintro cause t rfl
    exact ⟨rfl, oneCode_header (by decide) (Nat.le_trans cause.code_le (by decide)) (hw 0)⟩

theorem observation_words_get (s : State) (k : ObsKind) {j : Nat} (hj : j < 2) :
    ((obsAll.map fun k => (s.obsOf k).words).flatten).getD (2 * (obsCode k - 1) + j) 0 = ((s.obsOf k).words).getD j 0 := by
  obtain ⟨hlt, hget⟩ := List.getElem?_eq_some_iff.1 (obsAll_getElem? k)
  rw [obsCode_eq_obsIndex, Nat.add_sub_cancel, List.getD_eq_getElem?_getD, List.getD_eq_getElem?_getD,
    getElem?_flatten_map (f := fun k => (s.obsOf k).words) (m := 2) (fun _ => rfl) obsAll hlt hj, hget]

theorem settleAll_of_nothing {s : State} (h : nothingInHand s) : s.settleAll = s := by
  have htick : s.inHand.tick.any = false := by
    rw [h]
    rfl
  have hintake : s.inHand.intake = none := by
    rw [h]
    rfl
  rw [State.settleAll, State.settleTick_none _ htick, State.settleIntake_none _ hintake]

theorem stateReadEffect_of_range {args : List Word} {s : State} (hhand : nothingInHand s) (h : 4 < (arg args 0).toNat) :
    stateReadEffect args s = (s, refuse .range) := by
  simp only [stateReadEffect, settleAll_of_nothing hhand, sectionWords_of_high s h]

theorem stateReadEffect_of_section {args : List Word} {s : State} (hhand : nothingInHand s) {ws : List Word}
    (h : s.sectionWords (arg args 0).toNat = some ws) : stateReadEffect args s = (s, done false ws) := by
  simp only [stateReadEffect, settleAll_of_nothing hhand, h]

theorem windowSum_le {s : State} (h : windowSound s) : s.sa.windowSum ≤ 268435440 := by
  obtain ⟨hsum, hbuckets, -⟩ := h
  have hle : s.sa.buckets.toList.sum ≤ bucketMax * s.sa.buckets.toList.length :=
    list_sum_le fun x hx => by
      obtain ⟨i, hi, rfl⟩ := List.mem_iff_getElem.1 hx
      rw [Vector.length_toList] at hi
      rw [Vector.getElem_toList]
      exact hbuckets ⟨i, hi⟩
  rw [Vector.length_toList, bucketMax] at hle
  omega

theorem chainSound_bounds {r : ChainRecord} (h : chainSound r = true) :
    r.confirm ≤ 14 ∧ r.recovery ≤ 254 ∧ r.severe ≤ 254 ∧ r.park ≤ 255 := by
  simp only [chainSound, Bool.and_eq_true, decide_eq_true_eq] at h
  omega

section
variable {s : State} {w : Nat → Word}

theorem general_fields (hw : ∀ k, w k = s.generalWords.getD k 0) (hp : paramsInRange s) :
    bits (w 0) 0 2 = s.ge.mode.code ∧ bit (w 0) 2 = (s.ge.stream == .quiet) ∧ bit (w 0) 3 = s.cb.flip.isSome
      ∧ (∀ p, s.cb.flip = some p → bits (w 0) 4 1 = p.code) ∧ bits (w 0) 5 1 = s.cb.active.val
      ∧ bit (w 0) 6 = !s.ol.store.isEmpty ∧ (bits (w 0) 8 3 : Int) = s.param .tickCode := by
  have hcode := paramNat_cast hp (p := .tickCode) (by decide)
  have hrange : s.param .tickCode ≤ 7 := (hp.all .tickCode).2
  obtain ⟨hlt, hmode, hquiet, hflip, hpoint, hactive, hheld, htick⟩ := general_word0 s.ge.mode.code_le
    (flagBit_le (s.ge.stream == .quiet)) (flagBit_le s.cb.flip.isSome) (flagBit_le s.pointBit)
    (Nat.le_of_lt_succ s.cb.active.isLt) (flagBit_le (!s.ol.store.isEmpty)) (code := s.paramNat .tickCode) (by omega) rfl
  rw [show w 0 = Word.ofNatural _ from hw 0]
  refine ⟨by rw [bits_ofNatural hlt]; simpa using hmode, bit_ofNatural_flag hlt hquiet, bit_ofNatural_flag hlt hflip,
    fun p hflipped => ?_, by rw [bits_ofNatural hlt]; exact hactive, bit_ofNatural_flag hlt hheld, ?_⟩
  · have hpending : flagBit s.pointBit = p.code := by
      rw [State.pointBit_pending s p hflipped]
      cases p <;> rfl
    rw [bits_ofNatural hlt]
    exact hpoint.trans hpending
  · rw [bits_ofNatural hlt, ← hcode]
    exact congrArg _ htick

theorem thermal_fields (hw : ∀ k, w k = s.thermalWords.getD k 0) (hsound : thermalSound s) (hlow : -160 ≤ s.boardRef)
    (hhigh : s.boardRef ≤ 600) {m : Module} {k : Nat} (hk : k = if m = .a then 2 else 7) :
    (w k).toNat = (s.te.get m).rise ∧ (w (k + 1)).toInt = s.thetaEst m ∧ (w (k + 2)).toNat = (s.te.get m).zone.code
      ∧ (w (k + 3)).toNat * 65536 + (w (k + 4)).toNat = (s.te.get m).heat := by
  obtain ⟨hrise, hheat⟩ := (thermalSound_iff s).1 hsound m
  have hzone := (s.te.get m).zone.code_le
  have hθ : s.thetaEst m = s.boardRef + (s.te.get m).rise := rfl
  have hword (j : Nat) (hj : j < 5) : w (k + j) = (s.moduleWords m).getD j 0 := by
    rw [hw, hk]
    cases m with
    | a => match j, hj with
      | 0, _ | 1, _ | 2, _ | 3, _ | 4, _ => rfl
    | b => match j, hj with
      | 0, _ | 1, _ | 2, _ | 3, _ | 4, _ => rfl
  rw [show w k = Word.ofNatural (s.te.get m).rise from hword 0 (by decide),
    show w (k + 1) = Word.ofSigned (s.thetaEst m) from hword 1 (by decide),
    show w (k + 2) = Word.ofNatural (s.te.get m).zone.code from hword 2 (by decide),
    show w (k + 3) = Word.ofNatural ((s.te.get m).heat / 65536) from hword 3 (by decide),
    show w (k + 4) = Word.ofNatural ((s.te.get m).heat % 65536) from hword 4 (by decide),
    Word.toNat_ofNatural (by omega), Word.toNat_ofNatural (by omega), Word.ofSigned_toInt _ (by omega) (by omega),
    words2_value (by omega)]
  exact ⟨rfl, rfl, rfl, rfl⟩

theorem chain_fields {c : Chain} {r : ChainRecord} {m : SlewMemory} (hw : ∀ k < 5, w k = (s.chainWords c).getD k 0)
    (hr : r = s.ms.get c) (hm : m = s.ge.slew.get c) (hsound : chainSound r = true) (hage : m.age ≤ 255)
    (hrl : -512 ≤ r.lastRL ∧ r.lastRL ≤ 340) (hlast : -200 ≤ m.last ∧ m.last ≤ 140) :
    bits (w 0) 0 2 = r.state.code ∧ bits (w 0) 2 4 = r.confirm ∧ bit (w 0) 6 = r.improving ∧ bit (w 0) 7 = r.probe
      ∧ bit (w 0) 8 = m.valid ∧ bits (w 1) 8 8 = r.recovery ∧ bits (w 1) 0 8 = r.severe ∧ bits (w 2) 8 8 = r.park
      ∧ bits (w 2) 0 8 = m.age ∧ (w 3).toInt = r.lastRL ∧ (w 4).toInt = m.last := by
  subst hr hm
  obtain ⟨hconfirm, hrecovery, hsevere, hpark⟩ := chainSound_bounds hsound
  obtain ⟨hlt, hstate, hcount, himproving, hprobe, hvalid⟩ := chain_word0 (s.ms.get c).state.code_le hconfirm
    (flagBit_le (s.ms.get c).improving) (flagBit_le (s.ms.get c).probe) (flagBit_le (s.ge.slew.get c).valid) rfl
  obtain ⟨hr1, hr2⟩ := bytes_word (Nat.le_trans hrecovery (by decide)) (Nat.le_trans hsevere (by decide)) (hw 1 (by decide))
  obtain ⟨hp1, hp2⟩ := bytes_word hpark hage (hw 2 (by decide))
  rw [show w 0 = Word.ofNatural _ from hw 0 (by decide)]
  refine ⟨by rw [bits_ofNatural hlt]; simpa using hstate, by rw [bits_ofNatural hlt]; exact hcount,
    bit_ofNatural_flag hlt himproving, bit_ofNatural_flag hlt hprobe, bit_ofNatural_flag hlt hvalid, hr1, hr2, hp1, hp2, ?_, ?_⟩
  · rw [show w 3 = Word.ofSigned (s.ms.get c).lastRL from hw 3 (by decide), Word.ofSigned_toInt _ (by omega) (by omega)]
  · rw [show w 4 = Word.ofSigned (s.ge.slew.get c).last from hw 4 (by decide), Word.ofSigned_toInt _ (by omega) (by omega)]

theorem supply_buckets (hw : ∀ k, w k = s.supplyWords.getD k 0) (hsound : windowSound s) (j : Fin 8) :
    s.sa.buckets.get ⟨2 * j.val, by omega⟩ = (w (6 + 3 * j.val)).toNat * 256 + bits (w (7 + 3 * j.val)) 8 8
      ∧ s.sa.buckets.get ⟨2 * j.val + 1, by omega⟩
        = bits (w (7 + 3 * j.val)) 0 8 * 65536 + (w (8 + 3 * j.val)).toNat := by
  obtain ⟨-, hbuckets, -⟩ := hsound
  have hget (i : Fin 16) : s.sa.buckets.toList[i.val]? = some (s.sa.buckets.get i) := by
    rw [Vector.getElem?_toList, Vector.getElem?_eq_getElem i.isLt]
    rfl
  have hword (i : Nat) : w (6 + i) = ((bucketWords s.sa.buckets.toList)[i]?).getD 0 := by
    rw [hw, Nat.add_comm]
    rfl
  obtain ⟨h0, h1, h2⟩ := bucketWords_pair (hget ⟨2 * j.val, by omega⟩) (hget ⟨2 * j.val + 1, by omega⟩)
  rw [show 7 + 3 * j.val = 6 + (3 * j.val + 1) by omega, show 8 + 3 * j.val = 6 + (3 * j.val + 2) by omega,
    hword, hword, hword, h0, h1, h2]
  exact bucket_words (hbuckets _) (hbuckets _)

end

/-- Settles O47. -/
theorem stateReadReturnsOneSection : Obligations.StateReadReturnsOneSection := by
  refine ⟨fun r s ht hhand => ⟨fun hrange => ?_, fun ws hsection => ?_⟩, fun s w hw hp => ?_,
    fun s w hw hsound hlow hhigh => ⟨?_, ?_, fun m k => thermal_fields hw hsound hlow hhigh⟩,
    fun s c r m w hw hr hm hsound hage hl hl' hg hg' =>
      chain_fields (fun k hk => ((hw k).resolve_right (by omega)).trans (chainWords_get s c hk)) hr hm hsound hage ⟨hl, hl'⟩ ⟨hg, hg'⟩,
    fun s w hw hsound hb hb' ha ha' => ?_, fun s k o w hw ho hfresh hlow hhigh => ?_⟩
  · exact exec_row (t := s) (reply := refuse .range) rfl ht (stateReadEffect_of_range (s := heard s) hhand hrange)
  · have hbuckets : (bucketWords s.sa.buckets.toList).length = 24 := bucketWords_length (n := 8) (Vector.length_toList)
    have hwords : s.sectionWords (arg r.args 0).toNat = some ws
        ∧ some (ws.length + 1) = [10, 13, 21, 31, 25][(arg r.args 0).toNat]? := by
      rcases hsection with ⟨h, rfl⟩ | ⟨h, rfl⟩ | ⟨h, rfl⟩ | ⟨h, rfl⟩ | ⟨h, rfl⟩ <;> rw [h]
      · exact ⟨rfl, rfl⟩
      · exact ⟨rfl, rfl⟩
      · exact ⟨rfl, rfl⟩
      · refine ⟨rfl, congrArg some ?_⟩
        rw [State.supplyWords, List.length_append, hbuckets]
        rfl
      · exact ⟨rfl, rfl⟩
    exact ⟨exec_row (t := s) (reply := done false ws) rfl ht (stateReadEffect_of_section (s := heard s) hhand hwords.1), hwords.2⟩
  · obtain ⟨hmode, hquiet, hflip, hpoint, hactive, hheld, hcode⟩ := general_fields hw hp
    refine ⟨hmode, hquiet, hflip, hpoint, hactive, hheld, hcode, fun hcount => ?_, fun hcounter => ?_, fun hlog => ?_, ?_,
      fun hcount => ?_⟩
    · rw [show w 1 = Word.ofNatural s.ge.quietCount from hw 1, Word.toNat_ofNatural (by omega)]
    · rw [show w 2 = Word.ofNatural (s.tg.counter / 65536) from hw 2, show w 3 = Word.ofNatural (s.tg.counter % 65536) from hw 3,
        words2_value (by omega)]
    · obtain ⟨-, hfill, -, hlost, hfirst⟩ := hlog
      rw [show w 4 = Word.ofNatural s.ol.fill from hw 4, show w 5 = Word.ofNatural s.ol.lost from hw 5,
        show w 6 = Word.ofNatural s.ol.firstLoss from hw 6, Word.toNat_ofNatural (by omega), Word.toNat_ofNatural (by omega),
        Word.toNat_ofNatural (by omega)]
      exact ⟨rfl, rfl, rfl⟩
    · have hpending : s.nu.pending.toNat < 1024 := s.nu.pending.isLt
      rw [show w 7 = Word.ofNatural s.nu.pending.toNat from hw 7, Word.toNat_ofNatural (by omega)]
    · have hcause := s.rh.cause.code_le
      have hlt : s.rh.softCount * 256 + s.rh.cause.code < 65536 := by omega
      rw [show w 8 = Word.ofNatural (s.rh.softCount * 256 + s.rh.cause.code) from hw 8, bits_ofNatural hlt, bits_ofNatural hlt]
      omega
  · rw [show w 0 = Word.ofSigned s.boardRef from hw 0, Word.ofSigned_toInt _ (by omega) (by omega)]
  · rw [show w 1 = Word.ofNatural (flagBit (!s.isFresh .board)) from hw 1]
    cases s.isFresh .board <;> rfl
  · have hsum := windowSum_le hsound
    have hcounter := hsound.2.2.2
    have hcharge := s.sa.charge.code_le
    have hflag := flagBit_le (!s.supplyFromCurve)
    have hlt : s.sa.charge.code + flagBit (!s.supplyFromCurve) * 2 < 65536 := by omega
    rw [show w 0 = Word.ofNatural _ from hw 0, show w 1 = Word.ofNatural (s.sa.windowSum / 65536) from hw 1,
      show w 2 = Word.ofNatural (s.sa.windowSum % 65536) from hw 2, show w 3 = Word.ofNatural s.sa.counter from hw 3,
      show w 4 = Word.ofSigned s.baseAllowance from hw 4, show w 5 = Word.ofSigned s.allowance from hw 5,
      words2_value (by omega), Word.toNat_ofNatural (by omega), bits_ofNatural hlt, ofSigned_toNat hb hb', ofSigned_toNat ha ha',
      ← s.supplyFromCurve_eq]
    exact ⟨by omega, bit_ofNatural_flag hlt (by omega), rfl, rfl, rfl, rfl, supply_buckets hw hsound⟩
  · subst ho
    have hflag := flagBit_le (s.obsOf k).saturated
    have hlt : (s.obsOf k).fresh + flagBit (s.obsOf k).saturated * 256 < 65536 := by omega
    rw [show w (2 * (obsCode k - 1)) = Word.ofSigned (s.obsOf k).value from
        (hw _).trans (observation_words_get s k (j := 0) (by decide)),
      show w (2 * (obsCode k - 1) + 1) = Word.ofNatural _ from (hw _).trans (observation_words_get s k (j := 1) (by decide)),
      Word.ofSigned_toInt _ (by omega) (by omega), bits_ofNatural hlt]
    exact ⟨rfl, by omega, bit_ofNatural_flag hlt (by omega)⟩

end Sys2Proof.Safety
end

section
/-! PROOFS. The words of a slot order (O15) and an entry in FIXED mode (O57). -/

namespace Sys2Proof.Machine

/-! ### The entries of an order and their words (R2, R171) -/

theorem readEntries_getElem? {ws : List Word} {k : Nat} {x y : Word} (hx : ws[2 * k]? = some x) (hy : ws[2 * k + 1]? = some y) :
    (readEntries ws)[k]? = some (readEntry x y) := by
  induction k generalizing ws with
  | zero =>
    match ws, hx, hy with
    | head :: tail :: rest, hx, hy =>
      obtain rfl : head = x := by simpa using hx
      obtain rfl : tail = y := by simpa using hy
      rfl
  | succ k ih =>
    match ws, hx, hy with
    | head :: tail :: rest, hx, hy => exact ih (ws := rest) hx hy
    | [head], hx, hy => simp [Nat.mul_succ] at hx

theorem rewriteEntries_length {es : List Entry} {ps : List Power} (h : ps.length = es.length) :
    (rewriteEntries es ps).length = 2 * es.length := by
  induction es generalizing ps with
  | nil =>
    obtain rfl := List.eq_nil_of_length_eq_zero h
    rfl
  | cons e es ih =>
    match ps, h with
    | p :: ps, h =>
      simp only [rewriteEntries, List.length_cons, ih (Nat.succ.inj h)]
      omega

/-- Entry k of a governed order: its first word as received, its power word with the outgoing power. -/
theorem rewriteEntries_getElem? {es : List Entry} {ps : List Power} {k : Nat} {e : Entry} {p : Power} (he : es[k]? = some e)
    (hp : ps[k]? = some p) : (rewriteEntries es ps)[2 * k]? = some e.head
      ∧ (rewriteEntries es ps)[2 * k + 1]? = some (rewritePowerWord e.tail p) := by
  induction k generalizing es ps with
  | zero =>
    match es, ps, he, hp with
    | x :: es, y :: ps, he, hp =>
      obtain rfl : x = e := by simpa using he
      obtain rfl : y = p := by simpa using hp
      exact ⟨rfl, rfl⟩
  | succ k ih =>
    match es, ps, he, hp with
    | x :: es, y :: ps, he, hp => exact ih (es := es) (ps := ps) he hp

theorem readDuration_le (w : Word) : readDuration w ≤ 14 := by
  have hfield : bits w 11 4 < 16 := Nat.mod_lt _ (by decide)
  unfold readDuration
  (repeat' split) <;> omega

theorem order_word {reserved duration low n : Nat} (hreserved : reserved ≤ 1) (hduration : duration ≤ 14) (hlow : low ≤ 2047)
    (hn : n = reserved * 32768 + duration * 2048 + low) :
    n < 65536 ∧ n / 2 ^ 15 % 2 ^ 1 = reserved ∧ n / 2 ^ 11 % 2 ^ 4 = duration ∧ n / 2 ^ 0 % 2 ^ 10 = low % 1024
      ∧ n / 2 ^ 10 % 2 = low / 1024 := by
  omega

/-- The first word of an order, field by field, with its duration rewritten. -/
theorem rewriteOrderWord_fields (w : Word) :
    bits (rewriteOrderWord w) 15 1 = bits w 15 1 ∧ bits (rewriteOrderWord w) 11 4 = readDuration w
      ∧ bits (rewriteOrderWord w) 0 10 = bits w 0 10 ∧ bit (rewriteOrderWord w) 10 = bit w 10 := by
  have hreserved : bits w 15 1 < 2 := Nat.mod_lt _ (by decide)
  have hlow : bits w 0 11 < 2048 := Nat.mod_lt _ (by decide)
  have hslot : bits w 0 11 % 1024 = bits w 0 10 := by
    unfold bits
    omega
  have hflag : bits w 0 11 / 1024 = w.toNat / 2 ^ 10 % 2 := by
    unfold bits
    omega
  obtain ⟨hlt, h15, h11, h0, h10⟩ := order_word (Nat.le_of_lt_succ hreserved) (readDuration_le w) (Nat.le_of_lt_succ hlow) rfl
  unfold rewriteOrderWord
  rw [bits_ofNatural hlt, bits_ofNatural hlt, bits_ofNatural hlt, bit_ofNatural hlt, h15, h11, h0, h10, hflag, bit,
    Nat.testBit_eq_decide_div_mod_eq]
  exact ⟨rfl, rfl, hslot, rfl⟩

theorem rewritePowerWord_fields (w : Word) (p : Power) :
    bits (rewritePowerWord w p) 10 6 = bits w 10 6 ∧ bits (rewritePowerWord w p) 0 10 = p.field := by
  have hp := p.field_lt
  have hw : w.toNat < 65536 := w.isLt
  have hlt : bits w 10 6 * 1024 + p.field < 65536 := by
    unfold bits
    omega
  unfold rewritePowerWord
  rw [bits_ofNatural hlt, bits_ofNatural hlt]
  unfold bits
  omega

/-- A field read as the signed value that it holds. -/
theorem requestedPower_of_signed {w : Word} {q : Int} (h : (q - bits w 0 10) % 1024 = 0) (hlow : -512 ≤ q) (hhigh : q ≤ 511) :
    requestedPower w = if q = -512 then .off else .on (clamp (-200) 140 q) := by
  have hfield : bits w 0 10 < 1024 := Nat.mod_lt _ (by decide)
  have hsigned : signedField 10 (bits w 0 10) = q := by
    unfold signedField
    simp only [Nat.reduceSub, Nat.reducePow, Int.reducePow]
    (repeat' split) <;> omega
  unfold requestedPower
  rw [hsigned]
  by_cases hoff : q = -512
  · rw [if_pos (show bits w 0 10 = 512 by omega), if_pos hoff]
  · rw [if_neg (show ¬ bits w 0 10 = 512 by omega), if_neg hoff]

theorem requestedPower_rewrite (w : Word) {p : Power} (h : ∀ q, p = .on q → -200 ≤ q ∧ q ≤ 140) :
    requestedPower (rewritePowerWord w p) = p := by
  have hfield := (rewritePowerWord_fields w p).2
  cases p with
  | off => exact if_pos hfield
  | on q =>
    obtain ⟨hlow, hhigh⟩ := h q rfl
    have hq : (bits (rewritePowerWord w (.on q)) 0 10 : Int) = q % 1024 := by
      rw [hfield]
      exact field10_eq q
    rw [requestedPower_of_signed (q := q) (by omega) (by omega) (by omega), if_neg (by omega)]
    congr 1
    unfold clamp
    omega

/-! ### FIXED mode (R6) -/

theorem fixedGrants_getElem? (ceiling : Int) (earlier : List Chain) (pre post : List Entry) (e : Entry) :
    (fixedGrants ceiling earlier (pre ++ e :: post))[pre.length]?
      = some (fixedGrant ceiling ((pre.map Entry.chain).reverse ++ earlier) e) := by
  induction pre generalizing earlier with
  | nil => rfl
  | cons x pre ih =>
    rw [List.map_cons, List.reverse_cons, List.append_assoc]
    exact ih (x.chain :: earlier)

section
variable {ceiling : Int} {earlier : List Chain} {e : Entry}

theorem fixedGrant_entry : (fixedGrant ceiling earlier e).entry = e := by
  unfold fixedGrant
  split
  · rfl
  · (repeat' split) <;> rfl

theorem fixedGrant_of_off (h : e.request = .off) : fixedGrant ceiling earlier e = ⟨e, .off, .none, false⟩ := by
  simp only [fixedGrant, h, finalGrant, if_true]

theorem fixedGrant_of_repeated {q : Int} (h : e.request = .on q) (hchain : e.chain ∈ earlier) :
    fixedGrant ceiling earlier e = ⟨e, .off, .duplicate, false⟩ := by
  simp only [fixedGrant, h, hchain, if_true, finalGrant, reduceCtorEq, if_false]

theorem fixedGrant_of_first {q : Int} (h : e.request = .on q) (hchain : e.chain ∉ earlier) :
    fixedGrant ceiling earlier e = ⟨e, .on (min q ceiling), if ceiling < q then .fixed else .none, false⟩ := by
  have hreason : (min q ceiling = q) = ¬ ceiling < q := propext (by omega)
  simp only [fixedGrant, h, hchain, if_false, finalGrant, Power.on.injEq, hreason, ite_not]

end

theorem mem_earlier {pre : List Entry} {c : Chain} : c ∈ (pre.map Entry.chain).reverse ↔ ∃ x ∈ pre, x.chain = c := by
  simp

end Sys2Proof.Machine

namespace Sys2Proof.Safety

open Sys2Proof.Machine

/-- Settles O15. -/
theorem governedFramesKeepAllButPowersAndDuration : Obligations.GovernedFramesKeepAllButPowersAndDuration := by
  refine ⟨fun f g outs hgood hlength hrange hg => ?_, fun ws n hn => ⟨?_, fun k e x y he hx hy => ?_⟩, fun y q hq hlow hhigh => ?_⟩
  · subst hg
    obtain ⟨hodd, -⟩ := (orderLengthGood_iff _).1 hgood
    obtain ⟨hreserved, hduration, hslot, hstart⟩ := rewriteOrderWord_fields (f.payload.getD 0 0)
    refine ⟨rfl, rfl, ?_, checkGood_madeFrame _ _ _, hslot, hstart, hreserved, hduration, fun k p hp => ?_⟩
    · have hentries := readEntries_length (f.payload.drop 1)
      rw [List.length_drop] at hentries
      simp only [governedFrame, madeFrame, List.length_cons, rewriteEntries_length hlength]
      omega
    · have hk : k < (readEntries (f.payload.drop 1)).length := hlength ▸ (List.getElem?_eq_some_iff.1 hp).1
      rw [readEntries_length, List.length_drop] at hk
      have hx : (f.payload.drop 1)[2 * k]? = some f.payload[2 * k + 1] := by
        rw [List.getElem?_drop, Nat.add_comm 1, List.getElem?_eq_getElem (by omega)]
      have hy : (f.payload.drop 1)[2 * k + 1]? = some f.payload[2 * k + 2] := by
        rw [List.getElem?_drop, Nat.add_comm 1, List.getElem?_eq_getElem (by omega)]
      obtain ⟨hhead, htail⟩ := rewriteEntries_getElem? (readEntries_getElem? hx hy) hp
      have hpower : (governedFrame f outs).payload.getD (2 * k + 2) 0 = rewritePowerWord f.payload[2 * k + 2] p := by
        rw [List.getD_eq_getElem?_getD, show (governedFrame f outs).payload[2 * k + 2]? = _ from htail]
        rfl
      have hreceived : f.payload.getD (2 * k + 2) 0 = f.payload[2 * k + 2] := by
        rw [List.getD_eq_getElem?_getD, List.getElem?_eq_getElem (by omega)]
        rfl
      rw [hpower, hreceived]
      refine ⟨?_, (rewritePowerWord_fields _ p).1, requestedPower_rewrite _ fun q hq => ?_⟩
      · rw [show (governedFrame f outs).payload[2 * k + 1]? = _ from hhead, List.getElem?_eq_getElem (by omega)]
        rfl
      · exact hrange q (hq ▸ List.mem_of_getElem? hp)
  · rw [readEntries_length, hn]
    omega
  · obtain rfl : readEntry x y = e := Option.some.inj ((readEntries_getElem? hx hy).symm.trans he)
    exact ⟨rfl, rfl, rfl, rfl, rfl, rfl, rfl⟩
  · rw [requestedPower_of_signed hq hlow hhigh]
    refine ⟨fun hoff => if_pos hoff, fun hon => ?_⟩
    rw [if_neg hon]
    congr 1
    unfold clamp
    omega

/-- Settles O57. -/
theorem fixedModeLimitsEachEntry : Obligations.FixedModeLimitsEachEntry := by
  refine fun s es hmode => ⟨s.grants_length es, fun pre post e hes => ?_⟩
  have hgrants : s.grants es = fixedGrants (s.param .fixedCeiling) [] es := by
    simp only [State.grants, hmode]
  refine ⟨fixedGrant (s.param .fixedCeiling) (pre.map Entry.chain).reverse e, ?_, fixedGrant_entry, rfl, fun hoff => ?_,
    fun q hq hearlier => ?_, fun q hq hearlier => ?_⟩
  · rw [hgrants, hes, fixedGrants_getElem?, List.append_nil]
  · rw [fixedGrant_of_off hoff]
    exact ⟨rfl, rfl⟩
  · rw [fixedGrant_of_repeated hq (mem_earlier.2 hearlier)]
    exact ⟨rfl, rfl⟩
  · rw [fixedGrant_of_first hq fun hmem => (mem_earlier.1 hmem).elim fun x hx => hearlier x hx.1 hx.2]
    exact ⟨rfl, rfl⟩

end Sys2Proof.Safety
end

section
/-! PROOFS. The laws of the outgoing powers (O58): rule matching, the stages of an entry, current fitting. -/

namespace Sys2Proof.Machine

/-! ### Rule matching (R114) -/

theorem Bank.matchRule_of_some {b : Bank} {e : Entry} {z : Zone} {m : MismatchState} {r : Rule}
    (h : b.rules.toList.find? (fun r => r.valid && r.accepts e z m) = some r) : b.matchRule e z m = r.action := by
  simp only [Bank.matchRule, h]

theorem Bank.matchRule_of_none {b : Bank} {e : Entry} {z : Zone} {m : MismatchState}
    (h : b.rules.toList.find? (fun r => r.valid && r.accepts e z m) = none) : b.matchRule e z m = b.header.action := by
  simp only [Bank.matchRule, h]

/-! ### Screening and the stages of one entry (R8 to R15) -/

section
variable {s : State} {earlier : List Chain} {e : Entry} {q : Int}

theorem State.screen_of_off (h : e.request = .off) : s.screen earlier e = some .none := if_pos h

section
variable (hq : e.request = .on q)
include hq

theorem State.screen_of_repeated (hchain : e.chain ∈ earlier) : s.screen earlier e = some .duplicate := by
  simp only [State.screen, hq, reduceCtorEq, if_false, if_pos hchain]

theorem State.screen_of_absent (hchain : e.chain ∉ earlier) (h : (s.cb.activeBank.descriptor e.chain).present = false) :
    s.screen earlier e = some .absent := by
  simp only [State.screen, hq, reduceCtorEq, if_false, if_neg hchain, if_pos h]

theorem State.screen_of_parked (hchain : e.chain ∉ earlier) (h : (s.cb.activeBank.descriptor e.chain).present = true)
    (hparked : (s.ms.get e.chain).state = .parked) : s.screen earlier e = some .parked := by
  simp only [State.screen, hq, reduceCtorEq, if_false, if_neg hchain, h, Bool.true_eq_false, if_pos hparked]

theorem State.screen_of_passed (hchain : e.chain ∉ earlier) (h : (s.cb.activeBank.descriptor e.chain).present = true)
    (hparked : (s.ms.get e.chain).state ≠ .parked) : s.screen earlier e = none := by
  simp only [State.screen, hq, reduceCtorEq, if_false, if_neg hchain, h, Bool.true_eq_false, if_neg hparked]

end

theorem State.screen_none (h : s.screen earlier e = none) : (∃ q, e.request = .on q) ∧ e.chain ∉ earlier := by
  cases hrequest : e.request with
  | off =>
    rw [State.screen, if_pos hrequest] at h
    cases h
  | on q =>
    refine ⟨⟨q, rfl⟩, fun hmem => ?_⟩
    rw [State.screen_of_repeated hrequest hmem] at h
    cases h

/-- An entry that fails screening goes OFF for the reason of its test. -/
theorem State.stageEntry_of_screened {r : Reason} (h : s.screen earlier e = some r) : s.stageEntry earlier e
    = { entry := e, desc := s.cb.activeBank.descriptor e.chain, value := .off, reason := r, forbid := false, logAlways := false } := by
  simp only [State.stageEntry, h]

/-- The value and reason of an entry before its floor stage: the capped least of its request and ceilings. -/
def State.capped (s : State) (e : Entry) (a : Action) (q : Int) : Int × Reason :=
  let d := s.cb.activeBank.descriptor e.chain
  let c := ceilingStage q (s.thermalCeiling d a) (s.mismatchCeiling e.chain d.rated) d.rated
  slewStage (s.ge.slew.get e.chain) d.rise c.1 c.2

/-- An entry that passes screening goes through the stages with the action that governs it. -/
theorem State.stageEntry_of_passed (h : s.screen earlier e = none) (hq : e.request = .on q) {a : Action}
    (ha : a = s.cb.activeBank.matchRule e (s.te.get (s.cb.activeBank.descriptor e.chain).module).zone (s.ms.get e.chain).state)
    {l : Int × Reason} (hl : l = s.capped e a q) {f : Power × Reason}
    (hf : f = floorStage q (s.cb.activeBank.descriptor e.chain).floor l.1 (resolveForbid a.shed e.anchor) l.2) :
    s.stageEntry earlier e = {
      entry := e, desc := s.cb.activeBank.descriptor e.chain, value := f.1, reason := f.2
      forbid := resolveForbid a.shed e.anchor, logAlways := a.logAlways } := by
  subst ha hl hf
  simp only [State.stageEntry, h, hq, State.capped]

theorem State.stageEntry_entry : (s.stageEntry earlier e).entry = e := by
  unfold State.stageEntry
  split <;> rfl

theorem State.stageEntry_desc : (s.stageEntry earlier e).desc = s.cb.activeBank.descriptor e.chain := by
  unfold State.stageEntry
  split <;> rfl

/-- Only an entry that passes screening is not OFF after the stages. -/
theorem State.stageEntry_not_off (h : (s.stageEntry earlier e).value ≠ .off) :
    s.screen earlier e = none ∧ (∃ q, e.request = .on q) ∧ e.chain ∉ earlier := by
  cases hscreen : s.screen earlier e with
  | none => exact ⟨rfl, State.screen_none hscreen⟩
  | some r => exact absurd (by rw [State.stageEntry_of_screened hscreen]) h

end

theorem slewStage_fst (m : SlewMemory) (rise g : Int) (r : Reason) :
    (slewStage m rise g r).1 = if m.valid = true ∧ m.last + rise < g then m.last + rise else g := by
  unfold slewStage
  (repeat' split) <;> rfl

theorem slewStage_snd (m : SlewMemory) (rise g : Int) (r : Reason) :
    (slewStage m rise g r).2 = if (slewStage m rise g r).1 < g then .slew else r := by
  unfold slewStage
  by_cases h : m.valid = true ∧ m.last + rise < g
  · rw [if_pos h]
    exact (if_pos h.2).symm
  · rw [if_neg h]
    exact (if_neg (Int.lt_irrefl g)).symm

theorem floorStage_below {q floor l : Int} (hq : l < q) (hfloor : l < floor) (forbid : Bool) (r : Reason) :
    floorStage q floor l forbid r = if forbid then (.on (min floor q), .floor) else (.off, .shed) := if_pos ⟨hq, hfloor⟩

theorem floorStage_above {q floor l : Int} (h : q ≤ l ∨ floor ≤ l) (forbid : Bool) (r : Reason) :
    floorStage q floor l forbid r = (.on l, r) := if_neg (by omega)

theorem State.stageEntries_getElem? (s : State) (earlier : List Chain) (pre post : List Entry) (e : Entry) :
    (s.stageEntries earlier (pre ++ e :: post))[pre.length]?
      = some (s.stageEntry ((pre.map Entry.chain).reverse ++ earlier) e) := by
  induction pre generalizing earlier with
  | nil => rfl
  | cons x pre ih =>
    rw [List.map_cons, List.reverse_cons, List.append_assoc]
    exact ih (x.chain :: earlier)

theorem State.stageEntries_fresh {s : State} {earlier : List Chain} {es : List Entry} {w : Working}
    (hw : w ∈ s.stageEntries earlier es) (hoff : w.value ≠ .off) : w.entry.chain ∉ earlier := by
  induction es generalizing earlier with
  | nil => cases hw
  | cons e es ih =>
    rcases List.mem_cons.1 hw with rfl | hw
    · rw [State.stageEntry_entry]
      exact (State.stageEntry_not_off hoff).2.2
    · exact fun hmem => ih hw (List.mem_cons_of_mem _ hmem)

/-! ### Current fitting (R17 to R19) -/

theorem le_lowerSteps_iff {g floor : Int} {n : Nat} : n ≤ lowerSteps g floor ↔ n = 0 ∨ floor ≤ g - 4 * n := by
  unfold lowerSteps
  omega

theorem sub_zeroSteps (g : Int) : g - 4 * ((0 : Nat) : Int) = g := by
  omega

/-- A number with a property has a least one before it. -/
theorem exists_least {p : Nat → Prop} (h : ∃ n, p n) : ∃ n, p n ∧ ∀ k, k < n → ¬ p k := by
  obtain ⟨n, hn⟩ := h
  induction n using Nat.strongRecOn with
  | ind n ih =>
    by_cases hless : ∃ k, k < n ∧ p k
    · obtain ⟨k, hk, hpk⟩ := hless
      exact ih k hk hpk
    · exact ⟨n, hn, fun k hk hpk => hless ⟨k, hk, hpk⟩⟩

section
variable {current : Int → Int} {left : Int}

/-- The first value in steps of 4 that fits. -/
theorem lowerToFit_first {k n : Nat} {g : Int} (hk : k ≤ n) (hfits : current (g - 4 * k) ≤ left)
    (hbefore : ∀ j : Nat, j < k → left < current (g - 4 * j)) : lowerToFit current left n g = (g - 4 * k, true) := by
  induction n generalizing g k with
  | zero =>
    obtain rfl : k = 0 := by omega
    rw [sub_zeroSteps] at hfits ⊢
    simp only [lowerToFit, hfits, decide_true]
  | succ n ih =>
    cases k with
    | zero =>
      rw [sub_zeroSteps] at hfits ⊢
      exact if_pos hfits
    | succ k =>
      have hstep (j : Nat) : g - 4 - 4 * (j : Int) = g - 4 * (j + 1 : Nat) := by omega
      have hnow : ¬ current g ≤ left := by
        have := hbefore 0 (by omega)
        simpa using this
      rw [lowerToFit, if_neg hnow, ih (k := k) (g := g - 4) (by omega) (by rwa [hstep]) fun j hj => by
        rw [hstep]
        exact hbefore (j + 1) (by omega), hstep]

theorem lowerToFit_none {n : Nat} {g : Int} (h : ∀ j : Nat, j ≤ n → left < current (g - 4 * j)) :
    (lowerToFit current left n g).2 = false := by
  induction n generalizing g with
  | zero => simpa [lowerToFit] using h 0 (Nat.le_refl _)
  | succ n ih =>
    have hstep (j : Nat) : g - 4 - 4 * (j : Int) = g - 4 * (j + 1 : Nat) := by omega
    have hnow : ¬ current g ≤ left := by
      have := h 0 (by omega)
      simpa using this
    rw [lowerToFit, if_neg hnow]
    exact ih fun j hj => by
      rw [hstep]
      exact h (j + 1) (by omega)

end

theorem State.serve_entry (s : State) (w : Working) (left : Int) : (s.serve w left).1.entry = w.entry := by
  unfold State.serve
  split
  · rfl
  · dsimp only
    (repeat' split) <;> rfl

theorem insertServing_perm (w : Working) (ws : List Working) : (insertServing w ws).Perm (w :: ws) := by
  induction ws with
  | nil => exact .refl _
  | cons x xs ih =>
    unfold insertServing
    repeat' split
    · exact (ih.cons x).trans (.swap w x xs)
    · exact .refl _

theorem servingOrder_perm (ws : List Working) : (servingOrder ws).Perm (ws.filter fun w => w.value != .off) := by
  induction ws with
  | nil => exact .refl _
  | cons w ws ih =>
    unfold servingOrder
    split
    · rename_i h
      rwa [List.filter_cons_of_neg (by simp [h])]
    · rename_i h
      rw [List.filter_cons_of_pos (by simp [h])]
      exact (insertServing_perm w _).trans (ih.cons w)

/-- The entries in serving order, each with the current left when it is served. -/
def State.serveTrace (s : State) : List Working → Int → List (Working × Int)
  | [], _ => []
  | w :: ws, left => (w, left) :: s.serveTrace ws (s.serve w left).2

theorem State.serveTrace_fst (s : State) (ws : List Working) (left : Int) : (s.serveTrace ws left).map Prod.fst = ws := by
  induction ws generalizing left with
  | nil => rfl
  | cons w ws ih => rw [State.serveTrace, List.map_cons, ih]

theorem State.serveTrace_head {s : State} {ws : List Working} {left : Int} {p : Working × Int}
    (h : (s.serveTrace ws left).head? = some p) : p.2 = left := by
  cases ws with
  | nil => cases h
  | cons w ws => exact congrArg Prod.snd (Option.some.inj h).symm

/-- The entries served, each as `serve` leaves it with the current left at its turn. -/
theorem State.serveAll_eq (s : State) (ws : List Working) (left : Int) :
    s.serveAll ws left = (s.serveTrace ws left).map fun p => (s.serve p.1 p.2).1 := by
  induction ws generalizing left with
  | nil => rfl
  | cons w ws ih => rw [State.serveAll, State.serveTrace, List.map_cons, ih]

theorem State.serveTrace_next {s : State} {ws : List Working} {left : Int} {k : Nat} {x p : Working × Int}
    (hx : (s.serveTrace ws left)[k]? = some x) (hp : (s.serveTrace ws left)[k + 1]? = some p) : p.2 = (s.serve x.1 x.2).2 := by
  induction ws generalizing left k with
  | nil => cases hx
  | cons w ws ih =>
    cases k with
    | zero =>
      obtain rfl : (w, left) = x := by simpa [State.serveTrace] using hx
      exact State.serveTrace_head (List.head?_eq_getElem?.trans hp)
    | succ k => exact ih hx hp

theorem find?_chain_of_mem {ws : List Working} (h : ws.Pairwise fun x y => x.entry.chain ≠ y.entry.chain) {v : Working}
    (hv : v ∈ ws) : (ws.find? fun x => x.entry.chain == v.entry.chain) = some v := by
  induction ws with
  | nil => cases hv
  | cons x xs ih =>
    obtain ⟨hx, hxs⟩ := List.pairwise_cons.1 h
    rcases List.mem_cons.1 hv with rfl | hmem
    · exact List.find?_cons_of_pos (by simp)
    · rw [List.find?_cons_of_neg (by simpa using hx v hmem)]
      exact ih hxs hmem

theorem State.fitCurrent_getElem? (s : State) {ws : List Working} {j : Nat} {w : Working} (h : ws[j]? = some w) :
    (s.fitCurrent ws)[j]? = some (if w.value = .off then w
      else ((s.serveAll (servingOrder ws) s.allowance).find? fun x => x.entry.chain == w.entry.chain).getD w) := by
  simp only [State.fitCurrent, List.getElem?_map, h, Option.map_some]

end Sys2Proof.Machine

namespace Sys2Proof.Safety

open Sys2Proof.Machine

/-! ### The rule that governs an entry (R10, R113, R114) -/

/-- The test of the rule search for an entry, as the state stands. -/
def tested (s : State) (e : Entry) (r : Rule) : Bool :=
  r.valid && r.accepts e (s.te.get (s.cb.activeBank.descriptor e.chain).module).zone (s.ms.get e.chain).state

theorem governs_iff (s : State) (e : Entry) (r : Rule) : governs s e r ↔ tested s e r = true := by
  have hanchor : anchorAccepts r.anchor e.anchor = true
      ↔ r.anchor = .any ∨ (r.anchor = .anchor ∧ e.anchor = true) ∨ (r.anchor = .nonAnchor ∧ e.anchor = false) := by
    cases r.anchor <;> simp [anchorAccepts]
  simp only [governs, tested, Rule.accepts, inMask, Bool.and_eq_true, hanchor, and_assoc]

theorem find?_tested_none {s : State} {e : Entry} {rs : List Rule} (h : ∀ r ∈ rs, ¬ governs s e r) :
    rs.find? (tested s e) = none :=
  List.find?_eq_none.2 fun r hr htested => h r hr ((governs_iff s e r).2 htested)

theorem actionOf_of_first {s : State} {e : Entry} {pre post : List Rule} {r : Rule}
    (hrules : s.cb.activeBank.rules.toList = pre ++ r :: post) (hr : governs s e r) (hpre : ∀ x ∈ pre, ¬ governs s e x) :
    actionOf s e = r.action := by
  have hfind : s.cb.activeBank.rules.toList.find? (tested s e) = some r := by
    rw [hrules, List.find?_append, find?_tested_none hpre, Option.none_or]
    exact List.find?_cons_of_pos ((governs_iff s e r).1 hr)
  exact Bank.matchRule_of_some hfind

theorem actionOf_of_none {s : State} {e : Entry} (h : ∀ r ∈ s.cb.activeBank.rules.toList, ¬ governs s e r) :
    actionOf s e = s.cb.activeBank.header.action := Bank.matchRule_of_none (find?_tested_none h)

/-! ### The serving order (R17) -/

theorem before_iff (x y : Working) : x.before y = true ↔ servedBefore x y := by
  unfold Working.before servedBefore
  repeat' split
  · cases hx : x.entry.anchor <;> cases hy : y.entry.anchor <;> simp_all
  · rename_i hanchor hpriority
    simp only [ne_eq, Classical.not_not] at hanchor
    simp only [hanchor, decide_eq_true_eq, hpriority, true_and, false_and, or_false]
    cases y.entry.anchor <;> simp
  · rename_i hanchor hpriority
    simp only [ne_eq, Classical.not_not] at hanchor hpriority
    simp only [hanchor, hpriority, decide_eq_true_eq, true_and, Nat.lt_irrefl, false_or, Fin.lt_def]
    cases y.entry.anchor <;> simp

theorem servedBefore_of_not {x y : Working} (hchain : x.entry.chain ≠ y.entry.chain) (h : ¬ servedBefore x y) :
    servedBefore y x := by
  have hval : x.entry.chain.val ≠ y.entry.chain.val := fun heq => hchain (Fin.ext heq)
  unfold servedBefore at h ⊢
  rw [Fin.lt_def] at h ⊢
  cases hx : x.entry.anchor <;> cases hy : y.entry.anchor <;> simp_all <;> omega

theorem servedBefore_trans {x y z : Working} (hxy : servedBefore x y) (hyz : servedBefore y z) : servedBefore x z := by
  unfold servedBefore at hxy hyz ⊢
  rw [Fin.lt_def] at *
  cases hx : x.entry.anchor <;> cases hy : y.entry.anchor <;> cases hz : z.entry.anchor <;> simp_all <;> omega

theorem insertServing_sorted {w : Working} {ws : List Working} (hws : ws.Pairwise servedBefore)
    (hchain : ∀ x ∈ ws, x.entry.chain ≠ w.entry.chain) : (insertServing w ws).Pairwise servedBefore := by
  induction ws with
  | nil => exact List.pairwise_singleton _ _
  | cons x xs ih =>
    obtain ⟨hx, hxs⟩ := List.pairwise_cons.1 hws
    unfold insertServing
    split
    · rename_i hbefore
      refine List.pairwise_cons.2 ⟨fun y hy => ?_, ih hxs fun y hy => hchain y (List.mem_cons_of_mem x hy)⟩
      rcases List.mem_cons.1 ((insertServing_perm w xs).mem_iff.1 hy) with rfl | hmem
      · exact (before_iff x y).1 hbefore
      · exact hx y hmem
    · rename_i hbefore
      have hwx : servedBefore w x := servedBefore_of_not (hchain x List.mem_cons_self) fun h => hbefore ((before_iff x w).2 h)
      refine List.pairwise_cons.2 ⟨fun y hy => ?_, hws⟩
      rcases List.mem_cons.1 hy with rfl | hmem
      · exact hwx
      · exact servedBefore_trans hwx (hx y hmem)

section
variable {ws : List Working} (hone : oneWorkingPerChain ws)
include hone

theorem servingOrder_chains : (servingOrder ws).Pairwise fun x y => x.entry.chain ≠ y.entry.chain := by
  refine ((servingOrder_perm ws).pairwise_iff fun h => h.symm).2 ?_
  refine (List.Pairwise.filter _ hone).imp_of_mem fun hx hy h => h ?_ ?_
  · simpa using (List.mem_filter.1 hx).2
  · simpa using (List.mem_filter.1 hy).2

theorem servingOrder_sorted : (servingOrder ws).Pairwise servedBefore := by
  induction ws with
  | nil => exact .nil
  | cons w ws ih =>
    obtain ⟨hw, hws⟩ := List.pairwise_cons.1 hone
    unfold servingOrder
    split
    · exact ih hws
    · rename_i hoff
      refine insertServing_sorted (ih hws) fun x hx => ?_
      obtain ⟨hmem, hvalue⟩ := List.mem_filter.1 ((servingOrder_perm ws).mem_iff.1 hx)
      exact (hw x hmem hoff (by simpa using hvalue)).symm

/-- An entry that takes part is left as it was served. -/
theorem fitCurrent_of_served {s : State} {k j : Nat} {w : Working} {left : Int}
    (hk : (s.serveTrace (servingOrder ws) s.allowance)[k]? = some (w, left)) (hj : ws[j]? = some w) (hoff : w.value ≠ .off) :
    (s.fitCurrent ws)[j]? = some (s.serve w left).1 := by
  have hchains : (s.serveAll (servingOrder ws) s.allowance).Pairwise fun x y => x.entry.chain ≠ y.entry.chain := by
    have hserving := servingOrder_chains hone
    rw [← State.serveTrace_fst s (servingOrder ws) s.allowance, List.pairwise_map] at hserving
    rw [State.serveAll_eq, List.pairwise_map]
    exact hserving.imp fun h => by rwa [State.serve_entry, State.serve_entry]
  have hmem : (s.serve w left).1 ∈ s.serveAll (servingOrder ws) s.allowance := by
    rw [State.serveAll_eq]
    exact List.mem_map.2 ⟨(w, left), List.mem_of_getElem? hk, rfl⟩
  have hfind := find?_chain_of_mem hchains hmem
  rw [State.serve_entry] at hfind
  rw [State.fitCurrent_getElem? s hj, if_neg hoff, hfind]
  rfl

end

/-- One entry served (R18, R19). -/
theorem serve_fits {s : State} {w : Working} {g q : Int} (hg : w.value = .on g) (hq : w.entry.request = .on q) (left : Int) :
    fits (s.evalRef w.desc.current) w g q left (s.serve w left).1 (s.serve w left).2 := by
  have hrequest : w.entry.requestValue = q := by
    simp only [Entry.requestValue, hq]
  refine ⟨fun n hn hfit hbefore => ?_, fun hnone => ?_⟩
  · have hlower := lowerToFit_first (le_lowerSteps_iff.2 hn) hfit hbefore
    have hsame : (g - 4 * (n : Int) = g) = (n = 0) := propext (by omega)
    simp only [State.serve, hg, hlower, if_true, hsame]
    exact ⟨trivial, trivial⟩
  · have hlower := lowerToFit_none (current := s.evalRef w.desc.current) (left := left) (n := lowerSteps g w.desc.floor) (g := g)
      fun j hj => hnone j (le_lowerSteps_iff.1 hj)
    refine ⟨fun hforbid hanchor => ?_, fun hheld => ?_⟩
    · simp only [State.serve, hg, hlower, Bool.false_eq_true, if_false, hforbid, hanchor, and_self, if_true]
    · have hhold : ¬ (w.forbid = false ∧ w.entry.anchor = false) := by
        rcases hheld with h | h <;> simp [h]
      simp only [State.serve, hg, hlower, Bool.false_eq_true, if_false, if_neg hhold, hrequest, and_self]

/-- What fitting can leave of an entry: a value lowered no further than its floor, OFF, or the hold at its floor. -/
theorem fits.outcome {current : Int → Int} {w v : Working} {g q left after : Int} (h : fits current w g q left v after) :
    v.entry = w.entry ∧ v.logAlways = w.logAlways
      ∧ ((∃ n : Nat, (n = 0 ∨ w.desc.floor ≤ g - 4 * n) ∧ v.value = .on (g - 4 * n)) ∨ v.value = .off
        ∨ v.value = .on (min w.desc.floor q)) := by
  obtain ⟨hlower, hnone⟩ := h
  by_cases hsome : ∃ n : Nat, (n = 0 ∨ w.desc.floor ≤ g - 4 * n) ∧ current (g - 4 * n) ≤ left
  · obtain ⟨n, ⟨hn, hfit⟩, hfirst⟩ := exists_least hsome
    obtain ⟨rfl, -⟩ := hlower n hn hfit fun k hk => Int.not_le.1 fun hle => hfirst k hk ⟨by omega, hle⟩
    exact ⟨rfl, rfl, .inl ⟨n, hn, rfl⟩⟩
  · obtain ⟨hshed, hhold⟩ := hnone fun n hn => Int.not_le.1 fun hle => hsome ⟨n, hn, hle⟩
    by_cases hmay : w.forbid = false ∧ w.entry.anchor = false
    · obtain ⟨rfl, -⟩ := hshed hmay.1 hmay.2
      exact ⟨rfl, rfl, .inr (.inl rfl)⟩
    · obtain ⟨rfl, -⟩ := hhold (by cases hf : w.forbid <;> cases ha : w.entry.anchor <;> simp_all)
      exact ⟨rfl, rfl, .inr (.inr rfl)⟩

theorem oneWorkingPerChain_stageEntries (s : State) (earlier : List Chain) (es : List Entry) :
    oneWorkingPerChain (s.stageEntries earlier es) := by
  induction es generalizing earlier with
  | nil => exact .nil
  | cons e es ih =>
    refine List.pairwise_cons.2 ⟨fun w hw _ hoff heq => ?_, ih _⟩
    rw [State.stageEntry_entry] at heq
    exact State.stageEntries_fresh hw hoff (List.mem_cons.2 (.inl heq.symm))

/-! ### The value of an entry after its stages (R11 to R15) -/

theorem capped_eq (s : State) (e : Entry) (a : Action) (q : Int) : s.capped e a q
    = slewStage (s.ge.slew.get e.chain) (s.cb.activeBank.descriptor e.chain).rise
        (ceilingStage q (s.thermalCeiling (s.cb.activeBank.descriptor e.chain) a)
          (s.mismatchCeiling e.chain (s.cb.activeBank.descriptor e.chain).rated) (s.cb.activeBank.descriptor e.chain).rated).1
        (ceilingStage q (s.thermalCeiling (s.cb.activeBank.descriptor e.chain) a)
          (s.mismatchCeiling e.chain (s.cb.activeBank.descriptor e.chain).rated) (s.cb.activeBank.descriptor e.chain).rated).2 :=
  rfl

theorem capped_le (s : State) (e : Entry) (q : Int) :
    (s.capped e (actionOf s e) q).1 ≤ q ∧ (s.capped e (actionOf s e) q).1 ≤ leastCeiling s e
      ∧ ((s.ge.slew.get e.chain).valid = true → (s.capped e (actionOf s e) q).1
          ≤ (s.ge.slew.get e.chain).last + (s.cb.activeBank.descriptor e.chain).rise) := by
  simp only [capped_eq, slewStage_fst, ceilingStage, leastCeiling]
  split
  · exact ⟨by omega, by omega, fun _ => Int.le_refl _⟩
  · rename_i h
    exact ⟨by omega, by omega, fun hvalid => Int.not_lt.1 fun hlt => h ⟨hvalid, hlt⟩⟩

section
variable {s : State} {earlier : List Chain} {e : Entry} {q : Int} (hq : e.request = .on q)
include hq

/-- An entry that is not OFF after its stages stands at the hold at its floor, or below every cap. -/
theorem stageEntry_value {g : Int} (h : (s.stageEntry earlier e).value = .on g) :
    g ≤ q ∧ min (s.cb.activeBank.descriptor e.chain).floor q ≤ g
      ∧ (g = min (s.cb.activeBank.descriptor e.chain).floor q
        ∨ (g ≤ leastCeiling s e ∧ ((s.ge.slew.get e.chain).valid = true →
            g ≤ (s.ge.slew.get e.chain).last + (s.cb.activeBank.descriptor e.chain).rise))) := by
  obtain ⟨hscreen, -, -⟩ := State.stageEntry_not_off (s := s) (by rw [h]; exact Power.noConfusion)
  obtain ⟨hrequest, hceiling, hslew⟩ := capped_le s e q
  rw [State.stageEntry_of_passed hscreen hq (a := actionOf s e) rfl rfl rfl] at h
  by_cases hlow : (s.capped e (actionOf s e) q).1 < q
      ∧ (s.capped e (actionOf s e) q).1 < (s.cb.activeBank.descriptor e.chain).floor
  · rw [floorStage_below hlow.1 hlow.2] at h
    generalize resolveForbid (actionOf s e).shed e.anchor = forbid at h
    cases forbid with
    | false => cases h
    | true =>
      obtain rfl := Power.on.inj h
      exact ⟨by omega, Int.le_refl _, .inl rfl⟩
  · rw [floorStage_above (by omega)] at h
    obtain rfl := Power.on.inj h
    exact ⟨hrequest, by omega, .inr ⟨hceiling, hslew⟩⟩

/-- The value of an entry after fitting: at most its request and at least its hold, and above a cap only at the hold. -/
theorem fitted_value {v : Working} {g left after p : Int} (h : (s.stageEntry earlier e).value = .on g)
    (hfits : fits (s.evalRef (s.stageEntry earlier e).desc.current) (s.stageEntry earlier e) g q left v after)
    (hp : v.value = .on p) :
    p ≤ q ∧ min (s.cb.activeBank.descriptor e.chain).floor q ≤ p
      ∧ (p = min (s.cb.activeBank.descriptor e.chain).floor q
        ∨ (p ≤ leastCeiling s e ∧ ((s.ge.slew.get e.chain).valid = true →
            p ≤ (s.ge.slew.get e.chain).last + (s.cb.activeBank.descriptor e.chain).rise))) := by
  obtain ⟨hrequest, hhold, hcap⟩ := stageEntry_value hq h
  obtain ⟨-, -, hvalue⟩ := hfits.outcome
  rw [State.stageEntry_desc] at hvalue
  rcases hvalue with ⟨n, hn, hvalue⟩ | hvalue | hvalue
  · obtain rfl := Power.on.inj (hp.symm.trans hvalue)
    refine ⟨by omega, by omega, ?_⟩
    rcases hcap with hcap | ⟨hceiling, hslew⟩
    · exact .inl (by omega)
    · exact .inr ⟨by omega, fun hvalid => by have := hslew hvalid; omega⟩
  · cases hp.symm.trans hvalue
  · obtain rfl := Power.on.inj (hp.symm.trans hvalue)
    exact ⟨Int.min_le_right _ _, Int.le_refl _, .inl rfl⟩

end

/-! ### One entry of an order after fitting -/

/-- What fitting leaves of an entry that the stages left as `w`: itself when it is OFF, else what serving it leaves. -/
def Fitted (s : State) (w v : Working) : Prop :=
  (w.value = .off → v = w) ∧ ∀ g q : Int, w.value = .on g → w.entry.request = .on q →
    ∃ left after, fits (s.evalRef w.desc.current) w g q left v after

theorem fitCurrent_fitted {s : State} {ws : List Working} (hone : oneWorkingPerChain ws) {j : Nat} {w : Working}
    (hj : ws[j]? = some w) : ∃ v, (s.fitCurrent ws)[j]? = some v ∧ Fitted s w v ∧ v.entry = w.entry := by
  by_cases hoff : w.value = .off
  · exact ⟨w, by rw [s.fitCurrent_getElem? hj, if_pos hoff], ⟨fun _ => rfl, fun g q hg => by cases hoff.symm.trans hg⟩, rfl⟩
  · have hserving : w ∈ servingOrder ws :=
      (servingOrder_perm ws).mem_iff.2 (List.mem_filter.2 ⟨List.mem_of_getElem? hj, by simpa using hoff⟩)
    rw [← State.serveTrace_fst s (servingOrder ws) s.allowance] at hserving
    obtain ⟨⟨x, left⟩, htrace, rfl⟩ := List.mem_map.1 hserving
    obtain ⟨k, hk⟩ := List.mem_iff_getElem?.1 htrace
    exact ⟨_, fitCurrent_of_served hone hk hj hoff, ⟨fun h => absurd h hoff, fun g q hg hq => ⟨left, _, serve_fits hg hq left⟩⟩,
      s.serve_entry x left⟩

theorem activeGrants_getElem? {s : State} {es : List Entry} {k : Nat} {v : Working}
    (h : (s.fitCurrent (s.stageEntries [] es))[k]? = some v) :
    (s.activeGrants es)[k]? = some (finalGrant v.entry v.value v.reason v.logAlways) := by
  simp only [State.activeGrants, List.getElem?_map, h, Option.map_some]

theorem grants_of_not_fixed {s : State} (h : s.ge.mode ≠ .fixed) (es : List Entry) : s.grants es = s.activeGrants es := by
  unfold State.grants
  cases hmode : s.ge.mode with
  | fixed => exact absurd hmode h
  | monitor | active => rfl

theorem grants_of_fixed {s : State} (h : s.ge.mode = .fixed) (es : List Entry) :
    s.grants es = fixedGrants (s.param .fixedCeiling) [] es := by
  simp only [State.grants, h]

/-- An entry requested OFF goes out OFF, and no entry goes out above its request, in FIXED mode (R6). -/
theorem fixedGrant_value (ceiling : Int) (earlier : List Chain) (e : Entry) :
    (e.request = .off → (fixedGrant ceiling earlier e).value = .off)
      ∧ ∀ q p, e.request = .on q → (fixedGrant ceiling earlier e).value = .on p → p ≤ q := by
  refine ⟨fun hoff => by rw [fixedGrant_of_off hoff], fun q p hq hp => ?_⟩
  by_cases hchain : e.chain ∈ earlier
  · rw [fixedGrant_of_repeated hq hchain] at hp
    cases hp
  · rw [fixedGrant_of_first hq hchain] at hp
    obtain rfl := Power.on.inj hp
    exact Int.min_le_left _ _

section
variable {s : State} {earlier : List Chain} {e : Entry} {v : Working} (h : Fitted s (s.stageEntry earlier e) v)
include h

theorem Fitted.of_screened {r : Reason} (hscreen : s.screen earlier e = some r) : v.value = .off ∧ v.reason = r := by
  have hstage := State.stageEntry_of_screened hscreen
  rw [h.1 (by rw [hstage]), hstage]
  exact ⟨rfl, rfl⟩

theorem Fitted.value {q p : Int} (hq : e.request = .on q) (hp : v.value = .on p) :
    p ≤ q ∧ min (s.cb.activeBank.descriptor e.chain).floor q ≤ p
      ∧ (p = min (s.cb.activeBank.descriptor e.chain).floor q
        ∨ (p ≤ leastCeiling s e ∧ ((s.ge.slew.get e.chain).valid = true →
            p ≤ (s.ge.slew.get e.chain).last + (s.cb.activeBank.descriptor e.chain).rise))) := by
  obtain ⟨hoff, hon⟩ := h
  cases hw : (s.stageEntry earlier e).value with
  | off =>
    rw [hoff hw, hw] at hp
    cases hp
  | on g =>
    obtain ⟨left, after, hfits⟩ := hon g q hw (by rw [State.stageEntry_entry, hq])
    exact fitted_value hq hw hfits hp

/-- The final reason of an entry that goes OFF against its request is the reason of the test that it failed. -/
theorem Fitted.reason_of_screened {q : Int} (hq : e.request = .on q) {r : Reason} (hscreen : s.screen earlier e = some r) :
    (finalGrant e v.value v.reason v.logAlways).value = .off ∧ (finalGrant e v.value v.reason v.logAlways).reason = r := by
  obtain ⟨hvalue, hreason⟩ := h.of_screened hscreen
  simp only [finalGrant, hvalue, hq, reduceCtorEq, if_false, hreason, and_self]

end

/-- An entry of an order after its stages. -/
theorem stageEntries_at (s : State) (pre post : List Entry) (e : Entry) :
    (s.stageEntries [] (pre ++ e :: post))[pre.length]? = some (s.stageEntry (pre.map Entry.chain).reverse e) := by
  rw [State.stageEntries_getElem?, List.append_nil]

/-- The laws of one entry in FIXED mode, and of one in MONITOR and ACTIVE mode (R7, R9, R15, R21). -/
theorem grant_laws (s : State) (pre post : List Entry) (e : Entry) :
    ∃ g, (s.grants (pre ++ e :: post))[pre.length]? = some g ∧ g.entry = e
      ∧ (s.ge.mode = .fixed → (e.request = .off → g.value = .off)
        ∧ ∀ q p, e.request = .on q → g.value = .on p → p ≤ q)
      ∧ (s.ge.mode ≠ .fixed → ∃ w, (s.fitCurrent (s.stageEntries [] (pre ++ e :: post)))[pre.length]? = some w
        ∧ Fitted s (s.stageEntry (pre.map Entry.chain).reverse e) w ∧ g = finalGrant e w.value w.reason w.logAlways) := by
  by_cases hmode : s.ge.mode = .fixed
  · refine ⟨fixedGrant (s.param .fixedCeiling) (pre.map Entry.chain).reverse e, ?_, fixedGrant_entry,
      fun _ => fixedGrant_value _ _ e, fun h => absurd hmode h⟩
    rw [grants_of_fixed hmode, fixedGrants_getElem?, List.append_nil]
  · obtain ⟨w, hw, hfitted, hentry⟩ := fitCurrent_fitted (oneWorkingPerChain_stageEntries s [] (pre ++ e :: post))
      (stageEntries_at s pre post e)
    rw [State.stageEntry_entry] at hentry
    refine ⟨finalGrant e w.value w.reason w.logAlways, ?_, rfl, fun h => absurd h hmode, fun _ => ⟨w, hw, hfitted, rfl⟩⟩
    rw [grants_of_not_fixed hmode, activeGrants_getElem? hw, hentry]

theorem outgoing_of_not_monitor {m : Mode} (h : m ≠ .monitor) (g : Grant) : outgoing m g = g.value := by
  cases m with
  | monitor => exact absurd rfl h
  | fixed | active => rfl

section
variable {s : State} {e : Entry}

theorem thermalCeiling_of_slot {d : Descriptor} {a : Action} {n : Fin 16}
    (h : a.ceiling = .slot n ∨ a.ceiling = .default ∧ d.ceiling = .slot n) :
    s.thermalCeiling d a = s.cs.eval n (s.boardRef + (s.te.get d.module).rise) - a.backoff := by
  rcases h with h | ⟨h, hd⟩
  · simp only [State.thermalCeiling, h]
    rfl
  · simp only [State.thermalCeiling, h, hd]
    rfl

theorem thermalCeiling_of_none {d : Descriptor} {a : Action} (h : a.ceiling = .default) (hd : d.ceiling = .none) :
    s.thermalCeiling d a = d.rated - a.backoff := by
  simp only [State.thermalCeiling, h, hd]

theorem resolveForbid_eq (p : ShedPolicy) (anchor : Bool) :
    resolveForbid p anchor = (p == .forbid || (p == .default && anchor)) := by
  cases p <;> rfl

end

/-- The base allowance is the supply curve's value while BATT_V is fresh, else the fallback (R73). -/
theorem allowance_eq (s : State) : s.allowance = if s.sa.charge = .capped then min s.baseAllowance (s.param .sustainedCurrent)
    else s.baseAllowance := by
  unfold State.allowance
  cases s.sa.charge <;> rfl

/-- Settles O58: the grant of each entry by the mode, the rule that governs it, its stages, and current fitting. -/
theorem outgoingPowersObeyTheLaws : Obligations.OutgoingPowersObeyTheLaws := by
  refine ⟨?_, fun s e => ⟨fun pre r post => actionOf_of_first, actionOf_of_none⟩, ?_, fun s ws hone => ⟨s.fitCurrent_length ws,
    fun j w hj hoff => by rw [s.fitCurrent_getElem? hj, if_pos hoff], s.serveTrace (servingOrder ws) s.allowance, ?_, ?_,
    fun p => State.serveTrace_head, ?_⟩, fun s base hbase => ?_⟩
  · rintro s _ pre post e rfl
    obtain ⟨g, hg, hentry, hfixed, hgoverned⟩ := grant_laws s pre post e
    refine ⟨s.grants_length _, g, hg, hentry, fun hoff => ?_, fun q p hq hp => ?_, fun hmonitor => ?_, fun hactive q hq => ?_,
      fun hmode => ?_, stageEntries_at s pre post e⟩
    · cases hmode : s.ge.mode with
      | fixed => exact (hfixed hmode).1 hoff
      | monitor => exact (congrArg Entry.request hentry).trans hoff
      | active =>
        obtain ⟨w, -, hfitted, rfl⟩ := hgoverned (by rw [hmode]; decide)
        exact (hfitted.of_screened (State.screen_of_off hoff)).1
    · cases hmode : s.ge.mode with
      | fixed =>
        rw [hmode] at hp
        exact (hfixed hmode).2 q p hq hp
      | monitor =>
        rw [hmode, show outgoing .monitor g = g.entry.request from rfl, hentry, hq] at hp
        exact Int.le_of_eq (Power.on.inj hp).symm
      | active =>
        obtain ⟨w, -, hfitted, rfl⟩ := hgoverned (by rw [hmode]; decide)
        rw [hmode] at hp
        exact (hfitted.value hq hp).1
    · rw [hmonitor]
      exact congrArg Entry.request hentry
    · obtain ⟨w, -, hfitted, rfl⟩ := hgoverned (by rw [hactive]; decide)
      have hearlier {c : Chain} (h : ∀ x ∈ pre, x.chain ≠ c) : c ∉ (pre.map Entry.chain).reverse := fun hmem =>
        (mem_earlier.1 hmem).elim fun x hx => h x hx.1 hx.2
      have hvalue (p : Int) (hp : outgoing s.ge.mode (finalGrant e w.value w.reason w.logAlways) = .on p) :=
        hfitted.value hq (show w.value = .on p by rwa [hactive] at hp)
      refine ⟨fun hrepeated => hfitted.reason_of_screened hq (State.screen_of_repeated hq (mem_earlier.2 hrepeated)),
        fun hfirst habsent => hfitted.reason_of_screened hq (State.screen_of_absent hq (hearlier hfirst) habsent),
        fun hfirst hpresent hparked =>
          hfitted.reason_of_screened hq (State.screen_of_parked hq (hearlier hfirst) hpresent hparked),
        fun p hp habove => ?_, fun p hp hvalid habove => ?_, fun p hp => (hvalue p hp).2.1⟩
      · exact (hvalue p hp).2.2.resolve_right fun hcap => absurd hcap.1 (Int.not_le.2 habove)
      · exact (hvalue p hp).2.2.resolve_right fun hcap => absurd (hcap.2 hvalid) (Int.not_le.2 habove)
    · obtain ⟨w, hw, -, rfl⟩ := hgoverned hmode
      exact ⟨w, hw, rfl, rfl, rfl⟩
  · rintro s e earlier q c l t m d a forbid w hq hchain rfl hpresent hparked rfl rfl rfl hc hl hforbid rfl
    obtain rfl : resolveForbid (actionOf s e).shed e.anchor = forbid := (resolveForbid_eq _ _).trans hforbid.symm
    have hvalue : (s.capped e (actionOf s e) q).1 = l := by
      simp only [capped_eq, slewStage_fst, ceilingStage, ← hc, hl]
    have hreason : (s.capped e (actionOf s e) q).2 = if l < c then .slew else if c = q then .none
        else if c = s.thermalCeiling (s.cb.activeBank.descriptor e.chain) (actionOf s e) then .thermal
        else if c = s.mismatchCeiling e.chain (s.cb.activeBank.descriptor e.chain).rated
            ∧ s.mismatchCeiling e.chain (s.cb.activeBank.descriptor e.chain).rated < (s.cb.activeBank.descriptor e.chain).rated
          then .mismatch else .rated := by
      rw [← hvalue]
      simp only [capped_eq, slewStage_snd, ceilingStage, ← hc, and_comm]
    have hstage := State.stageEntry_of_passed (State.screen_of_passed hq hchain hpresent hparked) hq (a := actionOf s e) rfl rfl rfl
    rw [hvalue, hreason] at hstage
    refine ⟨fun n => thermalCeiling_of_slot, thermalCeiling_of_none, fun x hx => ?_, State.stageEntry_entry,
      State.stageEntry_desc, by rw [hstage], by rw [hstage], fun hlow hfloor hmay => ?_, fun hlow hfloor hmust => ?_,
      fun hhigh => ?_⟩
    · have hceiling : x = s.stateCeiling (s.ms.get e.chain).state (s.cb.activeBank.descriptor e.chain).rated := by
        rw [hx]
        cases (s.ms.get e.chain).state <;> rfl
      rw [hceiling]
      rfl
    · rw [hstage, floorStage_below hlow hfloor, hmay]
      exact ⟨rfl, rfl⟩
    · rw [hstage, floorStage_below hlow hfloor, hmust]
      exact ⟨rfl, rfl⟩
    · rw [hstage, floorStage_above hhigh]
      exact ⟨rfl, rfl⟩
  · rw [State.serveTrace_fst]
    exact servingOrder_perm ws
  · rw [State.serveTrace_fst]
    exact servingOrder_sorted hone
  · intro k w left g q hk hg hq
    exact ⟨_, _, serve_fits hg hq left, fun p hp => State.serveTrace_next hk hp,
      fun j hj => fitCurrent_of_served hone hk hj (by rw [hg]; exact Power.noConfusion)⟩
  · rw [allowance_eq, hbase]
    unfold State.baseAllowance
    cases s.cb.activeBank.header.supply <;> rfl

end Sys2Proof.Safety
end

section
/-! PROOFS. What a governed slot order sends, records, notes and accounts (O56). -/

namespace Sys2Proof.Machine

/-! ### GRANT NOTEs in the insert queue (R23, R161, R162) -/

/-- NU neither places, changes nor removes a GRANT NOTE. -/
theorem grantNote_mem_step {q q' : List GovFrame} (h : NoticeStep q q') (ws : List Word) :
    GovFrame.grantNote ws ∈ q' ↔ GovFrame.grantNote ws ∈ q := by
  obtain rfl | ⟨d, rfl⟩ | ⟨d, -, -, rfl⟩ := h
  · rfl
  · rw [List.mem_map]
    refine ⟨fun ⟨f, hf, hmerge⟩ => ?_, fun hmem => ⟨_, hmem, rfl⟩⟩
    cases f with
    | grantNote x => rwa [← hmerge]
    | response _ _ | notice _ => cases hmerge
  · simp

theorem grantNote_mem_raise (s : State) (c : NoticeClass) (ws : List Word) :
    GovFrame.grantNote ws ∈ (s.raise c).li.insert ↔ GovFrame.grantNote ws ∈ s.li.insert :=
  grantNote_mem_step (s.raise_insert c) ws

theorem grantNote_mem_record (s : State) (r : Record) (ws : List Word) :
    GovFrame.grantNote ws ∈ (s.record r).li.insert ↔ GovFrame.grantNote ws ∈ s.li.insert := by
  simp only [State.record]
  (repeat' split) <;> simp only [grantNote_mem_raise, State.withOl_li]

/-! ### Accounting (R25 to R27) -/

theorem State.orderCharge_cons (s : State) (duration : Nat) (x : Chain × Power) (outs : List (Chain × Power)) :
    s.orderCharge duration (x :: outs) = s.entryCharge duration x.1 x.2 + s.orderCharge duration outs := by
  simp only [State.orderCharge, List.map_cons, List.sum_cons]

theorem State.setSlew_get_self (s : State) (c : Chain) (m : SlewMemory) : (s.setSlew c m).ge.slew.get c = m := by
  simp [State.setSlew, get_eq_getElem]

theorem State.setSlew_get_of_ne (s : State) {c d : Chain} (h : d ≠ c) (m : SlewMemory) :
    (s.setSlew c m).ge.slew.get d = s.ge.slew.get d := by
  have h' : c.val ≠ d.val := fun e => h (Fin.ext e).symm
  simp [State.setSlew, get_eq_getElem, Vector.getElem_set_ne _ _ h']

/-- No two grants that go out name one chain. -/
def oneGrantPerChain (gs : List Grant) : Prop :=
  gs.Pairwise fun g h => g.value ≠ .off → h.value ≠ .off → g.entry.chain ≠ h.entry.chain

/-- Slew memory is written by the grants that are not OFF, and nothing else with it (R27). -/
theorem setSlews_laws (gs : List Grant) (s : State) : ∃ v : Vector SlewMemory 4,
    State.setSlews gs s = s.withGe { s.ge with slew := v }
      ∧ (∀ c, (∀ g ∈ gs, g.entry.chain = c → g.value = .off) → v.get c = s.ge.slew.get c)
      ∧ (oneGrantPerChain gs → ∀ g ∈ gs, ∀ q, g.value = .on q → v.get g.entry.chain = { last := q, valid := true, age := 0 }) := by
  induction gs generalizing s with
  | nil => exact ⟨s.ge.slew, rfl, fun _ _ => rfl, fun _ g hg => by cases hg⟩
  | cons g gs ih =>
    cases hvalue : g.value with
    | off =>
      obtain ⟨v, hset, hkeep, hwrite⟩ := ih s
      refine ⟨v, ?_, fun c hc => hkeep c fun x hx => hc x (List.mem_cons_of_mem g hx), fun hone x hx q hq => ?_⟩
      · simp only [State.setSlews, hvalue, hset]
      · rcases List.mem_cons.1 hx with rfl | hx
        · cases hvalue.symm.trans hq
        · exact hwrite hone.tail x hx q hq
    | on p =>
      obtain ⟨v, hset, hkeep, hwrite⟩ := ih (s.setSlew g.entry.chain { last := p, valid := true, age := 0 })
      refine ⟨v, ?_, fun c hc => ?_, fun hone x hx q hq => ?_⟩
      · simp only [State.setSlews, hvalue, hset]
        rfl
      · have hne : c ≠ g.entry.chain := fun heq => by cases hvalue.symm.trans (hc g List.mem_cons_self heq.symm)
        rw [hkeep c fun x hx => hc x (List.mem_cons_of_mem g hx), State.setSlew_get_of_ne s hne]
      · rcases List.mem_cons.1 hx with rfl | hx
        · obtain ⟨hfirst, -⟩ := List.pairwise_cons.1 hone
          rw [hkeep x.entry.chain fun y hy heq => Classical.byContradiction fun hoff =>
            hfirst y hy (by rw [hvalue]; exact Power.noConfusion) hoff heq.symm, State.setSlew_get_self]
          exact congrArg (fun q => ({ last := q, valid := true, age := 0 } : SlewMemory))
            (Power.on.inj (hvalue.symm.trans hq))
        · exact hwrite hone.tail x hx q hq

theorem accountSlew_laws (gs : List Grant) (s : State) : ∃ v : Vector SlewMemory 4,
    s.accountSlew gs = s.withGe { s.ge with slew := v }
      ∧ (∀ c, (∀ g ∈ gs, g.entry.chain = c → g.value = .off) → v.get c = s.ge.slew.get c)
      ∧ (s.ge.mode = .fixed → v = s.ge.slew)
      ∧ (s.ge.mode ≠ .fixed → oneGrantPerChain gs → ∀ g ∈ gs, ∀ q, g.value = .on q →
          v.get g.entry.chain = { last := q, valid := true, age := 0 }) := by
  by_cases hmode : s.ge.mode = .fixed
  · refine ⟨s.ge.slew, ?_, fun _ _ => rfl, fun _ => rfl, fun h => absurd hmode h⟩
    unfold State.accountSlew
    split
    · rfl
    · next h => exact absurd hmode h
  · obtain ⟨v, hset, hkeep, hwrite⟩ := setSlews_laws gs s
    refine ⟨v, ?_, hkeep, fun h => absurd h hmode, fun _ => hwrite⟩
    rw [← hset, State.accountSlew]
    split
    · next h => exact absurd h hmode
    · rfl

/-! ### The parts of an order that the log and the notices see -/

/-- The record, the note and the notices of an order (R22 to R24). -/
def State.posted (slot : Nat) (gs : List Grant) (s : State) : State :=
  ((s.grantRecord slot gs).grantNote slot gs).shedFloorNotices gs

end Sys2Proof.Machine

namespace Sys2Proof.Safety

open Sys2Proof.Machine

theorem orderCharge_eq (s : State) (duration : Nat) (outs : List (Chain × Power)) :
    s.orderCharge duration outs = orderLoad s duration outs := by
  unfold State.orderCharge orderLoad
  refine congrArg List.sum (List.map_congr_left fun x _ => ?_)
  obtain ⟨c, p⟩ := x
  cases p <;> rfl

/-- The heat of one entry, as `orderHeat` counts it. -/
theorem accountHeat_laws (s : State) (duration : Nat) (x : Chain × Power) (h : ∀ m, (s.te.get m).heat ≤ 1048575) :
    ∃ y : ThermalEstimator, s.accountHeat duration x.1 x.2 = s.withTe y ∧ ∀ m, y.get m
      = { s.te.get m with heat := min 1048575 ((s.te.get m).heat + orderHeat s m duration [x]) } := by
  have hnone (m : Module) : s.te.get m = { s.te.get m with heat := min 1048575 ((s.te.get m).heat + 0) } := by
    rw [Nat.add_zero, Nat.min_eq_right (h m)]
  obtain ⟨c, p⟩ := x
  cases p with
  | off => exact ⟨s.te, rfl, hnone⟩
  | on q =>
    by_cases hpresent : (s.cb.activeBank.descriptor c).present = true
    · refine ⟨_, if_pos hpresent, fun m => ?_⟩
      by_cases hm : (s.cb.activeBank.descriptor c).module = m
      · subst hm
        rw [ThermalEstimator.get_set_self]
        simp [orderHeat, hpresent]
      · rw [ThermalEstimator.get_set_of_ne _ _ _ _ (Ne.symm hm)]
        simpa [orderHeat, hm] using hnone m
    · exact ⟨s.te, if_neg hpresent, fun m => by simpa [orderHeat, hpresent] using hnone m⟩

theorem orderHeat_cons (s : State) (m : Module) (duration : Nat) (x : Chain × Power) (outs : List (Chain × Power)) :
    orderHeat s m duration (x :: outs) = orderHeat s m duration [x] + orderHeat s m duration outs := by
  simp only [orderHeat, List.map_cons, List.sum_cons, List.map_nil, List.sum_nil, Nat.add_zero]

/-- The heat of an order saturates once, as that of its entries one by one (R25). -/
theorem accountHeats_laws (s : State) (duration : Nat) (outs : List (Chain × Power)) (h : ∀ m, (s.te.get m).heat ≤ 1048575) :
    ∃ y : ThermalEstimator, State.accountHeats duration outs s = s.withTe y ∧ ∀ m, y.get m
      = { s.te.get m with heat := min 1048575 ((s.te.get m).heat + orderHeat s m duration outs) } := by
  induction outs generalizing s with
  | nil => exact ⟨s.te, rfl, fun m => by
      rw [show orderHeat s m duration [] = 0 from rfl, Nat.add_zero, Nat.min_eq_right (h m)]⟩
  | cons x outs ih =>
    obtain ⟨y, hy, hheat⟩ := accountHeat_laws s duration x h
    obtain ⟨z, hz, hrest⟩ := ih (s.withTe y) fun m => by
      rw [State.withTe_te, hheat]
      exact Nat.min_le_left _ _
    refine ⟨z, by rw [State.accountHeats, hy, hz]; rfl, fun m => ?_⟩
    have hsame : orderHeat (s.withTe y) m duration outs = orderHeat s m duration outs := rfl
    rw [hrest, State.withTe_te, hheat, orderHeat_cons s m duration x outs, hsame]
    simp only [ModuleRecord.mk.injEq, true_and, and_true]
    omega

theorem beside_queueDown (f : Frame) : Beside (State.queueDown f) :=
  ⟨fun _ _ => rfl, fun _ => rfl, fun _ => rfl, fun _ => rfl, fun _ => rfl, fun _ _ => rfl, fun _ _ => rfl, fun _ _ => rfl⟩

theorem beside_offerGrant {g : State → State} (hg : Beside g) (s : State) (r : Record) (forced : Bool) :
    (g s).offerGrant r forced = g (s.offerGrant r forced) := by
  have hcount : (g s).ol.grantCounter % 2 ^ (g s).paramNat .grantDownsample
      = s.ol.grantCounter % 2 ^ s.paramNat .grantDownsample := by
    rw [hg.ol, State.paramNat, State.paramNat, hg.param]
  by_cases h : forced = true ∨ s.ol.grantCounter % 2 ^ s.paramNat .grantDownsample = 0
  · rw [offerGrant_kept h, offerGrant_kept (s := g s) (hcount ▸ h), hg.ol, hg.withOl, hg.record]
  · obtain ⟨hforced, hskip⟩ := not_or.1 h
    obtain rfl : forced = false := Bool.eq_false_iff.2 hforced
    rw [offerGrant_skipped hskip, offerGrant_skipped (s := g s) (hcount ▸ hskip), hg.ol, hg.withOl]

/-- The frame queued and the record, the note and the notices are separate. -/
theorem posted_queueDown (s : State) (f : Frame) (slot : Nat) (gs : List Grant) :
    (s.queueDown f).posted slot gs = (s.posted slot gs).queueDown f := by
  have hb := beside_queueDown f
  have hrecord : (s.queueDown f).grantRecord slot gs = (s.grantRecord slot gs).queueDown f := by
    simp only [State.grantRecord, beside_offerGrant hb, hb.stamp, State.queueDown_ge, apply_ite (State.queueDown f)]
  have hnote (t : State) : (t.queueDown f).grantNote slot gs = (t.grantNote slot gs).queueDown f := by
    simp only [State.grantNote, hb.param, hb.notePlace, hb.queueGov, State.queueDown_ge, apply_ite (State.queueDown f)]
  have hnotices (t : State) : (t.queueDown f).shedFloorNotices gs = (t.shedFloorNotices gs).queueDown f := by
    simp only [State.shedFloorNotices, hb.raise, State.queueDown_ge, apply_ite (State.queueDown f)]
    (repeat' split) <;> simp only [hb.raise]
  rw [State.posted, hrecord, hnote, hnotices, State.posted]

theorem logsOnly_queueGov (s : State) (f : GovFrame) : logsOnly s (s.queueGov f) := rfl

theorem logsOnly_grantRecord (s : State) (slot : Nat) (gs : List Grant) : logsOnly s (s.grantRecord slot gs) := by
  unfold State.grantRecord
  repeat' split
  · exact logsOnly_offerGrant s _ _
  · exact .refl s

theorem logsOnly_posted (s : State) (slot : Nat) (gs : List Grant) : logsOnly s (s.posted slot gs) := by
  have hnote (t : State) : logsOnly t (t.grantNote slot gs) := by
    unfold State.grantNote
    repeat' split
    · exact logsOnly_queueGov t _
    · exact .refl t
  have hnotices (t : State) : logsOnly t (t.shedFloorNotices gs) := by
    simp only [State.shedFloorNotices]
    repeat' split
    · exact (logsOnly_raise t _).trans (logsOnly_raise _ _)
    · exact logsOnly_raise t _
    · exact logsOnly_raise t _
    · exact .refl t
    · exact .refl t
  exact ((logsOnly_grantRecord s slot gs).trans (hnote _)).trans (hnotices _)

/-- SHED and FLOOR are raised by the final reasons of an ACTIVE order alone (R24). -/
theorem raised_shedFloorNotices_iff (s : State) (gs : List Grant) (c : NoticeClass) : raised c (s.shedFloorNotices gs)
    ↔ raised c s
      ∨ (s.ge.mode = .active ∧ ((c = .shed ∧ ∃ g ∈ gs, g.reason = .shed) ∨ (c = .floor ∧ ∃ g ∈ gs, g.reason = .floor))) := by
  simp only [State.shedFloorNotices, List.any_eq_true, beq_iff_eq]
  (repeat' split) <;> simp [raised_raise_iff, *, or_assoc]

theorem any_changed_iff (gs : List Grant) : gs.any Grant.changed = true ↔ ∃ g ∈ gs, g.value ≠ g.entry.request := by
  simp [Grant.changed]

section
variable {s : State} {slot : Nat} {gs : List Grant}

theorem grantRecord_of_full (h : ∀ g ∈ gs, g.value = g.entry.request) : s.grantRecord slot gs = s :=
  if_neg fun hany => ((any_changed_iff gs).1 hany).elim fun g hg => hg.2 (h g hg.1)

theorem grantRecord_of_kept (h : ∃ g ∈ gs, g.value ≠ g.entry.request)
    (hkept : (∃ g ∈ gs, g.logAlways = true) ∨ s.ol.grantCounter % 2 ^ s.paramNat .grantDownsample = 0) :
    s.grantRecord slot gs = (s.withOl { s.ol with grantCounter := (s.ol.grantCounter + 1) % 128 }).record
      (.grant (s.ge.mode == .monitor) slot (changedEntries gs) s.stamp) :=
  (if_pos ((any_changed_iff gs).2 h)).trans (offerGrant_kept (hkept.imp_left List.any_eq_true.2))

theorem grantRecord_of_skipped (h : ∃ g ∈ gs, g.value ≠ g.entry.request)
    (hskipped : ¬ ((∃ g ∈ gs, g.logAlways = true) ∨ s.ol.grantCounter % 2 ^ s.paramNat .grantDownsample = 0)) :
    s.grantRecord slot gs = s.withOl { s.ol with grantCounter := (s.ol.grantCounter + 1) % 128 } := by
  obtain ⟨hfree, hcount⟩ := not_or.1 hskipped
  have hforced : gs.any Grant.logAlways = false := by
    rw [← Bool.not_eq_true, List.any_eq_true]
    exact hfree
  rw [State.grantRecord, if_pos ((any_changed_iff gs).2 h), hforced, offerGrant_skipped hcount]

theorem raised_grantRecord_iff {c : NoticeClass} (hloss : c ≠ .loss) (hwater : c ≠ .watermark) :
    raised c (s.grantRecord slot gs) ↔ raised c s := by
  simp only [State.grantRecord, State.offerGrant]
  repeat' split
  · rw [raised_record_iff_of_ne hloss hwater]
    exact raised_congr rfl rfl
  · exact raised_congr rfl rfl
  · rfl

theorem grantNote_mem_grantRecord (ws : List Word) :
    GovFrame.grantNote ws ∈ (s.grantRecord slot gs).li.insert ↔ GovFrame.grantNote ws ∈ s.li.insert := by
  simp only [State.grantRecord, State.offerGrant]
  (repeat' split) <;> simp only [grantNote_mem_record, State.withOl_li]

theorem raised_grantNote_iff (c : NoticeClass) : raised c (s.grantNote slot gs) ↔ raised c s := by
  unfold State.grantNote
  repeat' split
  · simp [raised_iff, inNotice, State.queueGov]
  · rfl

/-- The GRANT NOTE of an order stands in the queue when it is reduced, notes are ON, the mode is not MONITOR and the queue
holds 0 to 2 frames, and no other note is added (R23, R169). -/
theorem grantNote_mem_grantNote (ws : List Word) : GovFrame.grantNote ws ∈ (s.grantNote slot gs).li.insert
    ↔ GovFrame.grantNote ws ∈ s.li.insert
      ∨ (((∃ g ∈ gs, g.value ≠ g.entry.request) ∧ s.ge.mode ≠ .monitor ∧ s.param .grantNotes = 1 ∧ s.li.insert.length ≤ 2)
        ∧ ws = Word.ofNatural slot :: (changedEntries gs).map GrantEntry.word) := by
  rw [← any_changed_iff, ← State.notePlace_iff]
  unfold State.grantNote
  split
  · rename_i h
    simp [State.queueGov, h]
  · rename_i h
    exact (or_iff_left fun hnote => h hnote.1).symm

theorem grantNote_mem_shedFloorNotices (ws : List Word) :
    GovFrame.grantNote ws ∈ (s.shedFloorNotices gs).li.insert ↔ GovFrame.grantNote ws ∈ s.li.insert := by
  simp only [State.shedFloorNotices]
  (repeat' split) <;> simp only [grantNote_mem_raise]

/-- A charge evaluation raises CHARGE, LOSS and WATERMARK at most. -/
theorem raised_evalCharge_iff {c : NoticeClass} (hcharge : c ≠ .charge) (hloss : c ≠ .loss) (hwater : c ≠ .watermark) :
    raised c s.evalCharge ↔ raised c s := by
  by_cases hsame : nextCharge s.sa.windowSum (s.param .chargeAllowance) s.sa.charge = s.sa.charge
  · rw [evalCharge_of_same hsame]
  · rw [evalCharge_of_change hsame, raised_raise_iff, raised_record_iff_of_ne hloss hwater, or_iff_left hcharge]
    exact raised_congr rfl rfl

theorem grantNote_mem_evalCharge (ws : List Word) :
    GovFrame.grantNote ws ∈ s.evalCharge.li.insert ↔ GovFrame.grantNote ws ∈ s.li.insert := by
  by_cases hsame : nextCharge s.sa.windowSum (s.param .chargeAllowance) s.sa.charge = s.sa.charge
  · rw [evalCharge_of_same hsame]
  · rw [evalCharge_of_change hsame, grantNote_mem_raise, grantNote_mem_record, State.withSa_li]

end

theorem record_ol_congr {s t : State} (hol : t.ol = s.ol) (hrh : t.rh = s.rh) (htg : t.tg = s.tg) (r : Record) :
    (t.record r).ol = (s.record r).ol := by
  have hstamp : t.stamp = s.stamp := congrArg (fun g : TickGenerator => g.counter % 65536) htg
  rw [State.record_ol, State.record_ol, hol, hstamp, param_congr hrh]

/-- A change of the charge state writes its CHARGE record (R84). -/
theorem evalCharge_ol_of_change {s : State} (h : s.evalCharge.sa.charge ≠ s.sa.charge) : s.evalCharge.ol
    = (s.record (.charge s.sa.charge s.evalCharge.sa.charge s.evalCharge.sa.windowSum s.stamp)).ol := by
  have hcharge : s.evalCharge.sa.charge = nextCharge s.sa.windowSum (s.param .chargeAllowance) s.sa.charge := by
    rw [State.evalCharge_sa]
  have hsum : s.evalCharge.sa.windowSum = s.sa.windowSum := by rw [State.evalCharge_sa]
  rw [hcharge] at h
  have hbeside (x : SupplyAllocator) (r : Record) : ((s.withSa x).record r).ol = (s.record r).ol :=
    record_ol_congr (s := s) (t := s.withSa x) rfl rfl rfl r
  rw [hcharge, hsum, evalCharge_of_change h, State.raise_ol, hbeside]

/-! ### The whole order -/

/-- The Supply Allocator with an order's charge in its open bucket (R77). -/
def charged (a : SupplyAllocator) (n : Nat) : SupplyAllocator :=
  { a with buckets := a.buckets.set 15 (a.buckets.get 15 + a.added n), windowSum := a.windowSum + a.added n }

/-- The state of an order before its charge evaluation: its frame queued, what it logs and notes, its heat and charge. -/
def unevaluated (s : State) (f : Frame) (gs : List Grant) (outs : List (Chain × Power)) (y : ThermalEstimator)
    (n : Nat) : State :=
  (((s.posted (slotNumber f.payload) gs).queueDown (governedFrame f (outs.map Prod.snd))).withTe y).withSa (charged s.sa n)

theorem settleOrder_eq {s : State} {f : Frame} {gs : List Grant} {outs : List (Chain × Power)} {d : Nat}
    (houts : outs = gs.map fun g => (g.entry.chain, outgoing s.ge.mode g)) (hd : d = readDuration (f.payload.getD 0 0))
    (hheat : ∀ m, (s.te.get m).heat ≤ 1048575) : ∃ y v,
      s.settleOrder f gs = ((unevaluated s f gs outs y (orderLoad s d outs)).evalCharge.withGe { s.ge with slew := v }).streamLive
      ∧ (∀ m, y.get m = { s.te.get m with heat := min 1048575 ((s.te.get m).heat + orderHeat s m d outs) })
      ∧ (∀ c, (∀ g ∈ gs, g.entry.chain = c → g.value = .off) → v.get c = s.ge.slew.get c)
      ∧ (s.ge.mode = .fixed → v = s.ge.slew)
      ∧ (s.ge.mode ≠ .fixed → oneGrantPerChain gs → ∀ g ∈ gs, ∀ q, g.value = .on q →
          v.get g.entry.chain = { last := q, valid := true, age := 0 }) := by
  obtain ⟨p, hp⟩ : ∃ p, p = (s.posted (slotNumber f.payload) gs).queueDown (governedFrame f (outs.map Prod.snd)) := ⟨_, rfl⟩
  have hlogs := logsOnly_posted s (slotNumber f.payload) gs
  rw [logsOnly_iff] at hlogs
  obtain ⟨hrh, hge, hte, -, hsa, hcs, hcb, -⟩ := hlogs
  have hpte : p.te = s.te := by rw [hp, State.queueDown_te, hte]
  have hpsa : p.sa = s.sa := by rw [hp, State.queueDown_sa, hsa]
  have hpge : p.ge = s.ge := by rw [hp, State.queueDown_ge, hge]
  have hpcb : p.cb = s.cb := by rw [hp, State.queueDown_cb, hcb]
  have hpcs : p.cs = s.cs := by rw [hp, State.queueDown_cs, hcs]
  obtain ⟨y, hy, hheats⟩ := accountHeats_laws p d outs (by rwa [hpte])
  obtain ⟨v, hv, hkeep, hfixed, hwrite⟩ := accountSlew_laws gs ((p.withTe y).addCharge (orderLoad s d outs))
  have hcharge : (p.withTe y).addCharge (orderLoad s d outs) = (unevaluated s f gs outs y (orderLoad s d outs)).evalCharge := by
    rw [State.addCharge, unevaluated, ← hp, State.withTe_sa, hpsa, charged]
  have hge' : ((p.withTe y).addCharge (orderLoad s d outs)).ge = s.ge := by
    rw [State.addCharge_ge, State.withTe_ge, hpge]
  rw [hge'] at hv hkeep hfixed hwrite
  have horder (m : Module) : orderHeat p m d outs = orderHeat s m d outs := by
    unfold orderHeat State.evalRef
    rw [hpcb, hpcs]
  refine ⟨y, v, ?_, fun m => by rw [hheats, hpte, horder], hkeep, hfixed, hwrite⟩
  rw [← hcharge, ← hv, ← hy, hp, ← posted_queueDown, ← orderCharge_eq, houts, hd]
  rfl

/-- Fitting leaves OFF entries OFF, and every entry on its chain. -/
theorem oneWorkingPerChain_fitCurrent {s : State} {ws : List Working} (h : oneWorkingPerChain ws) :
    oneWorkingPerChain (s.fitCurrent ws) := by
  have hchain (w : Working) : (((s.serveAll (servingOrder ws) s.allowance).find? fun x =>
      x.entry.chain == w.entry.chain).getD w).entry.chain = w.entry.chain := by
    cases hfind : (s.serveAll (servingOrder ws) s.allowance).find? fun x => x.entry.chain == w.entry.chain with
    | none => rfl
    | some x => simpa using List.find?_some hfind
  unfold State.fitCurrent
  refine List.pairwise_map.2 (h.imp fun {x y} hxy hx hy => ?_)
  have hxon : x.value ≠ .off := fun hoff => hx (by rw [if_pos hoff, hoff])
  have hyon : y.value ≠ .off := fun hoff => hy (by rw [if_pos hoff, hoff])
  rw [if_neg hxon, if_neg hyon, hchain, hchain]
  exact hxy hxon hyon

theorem oneGrantPerChain_grants {s : State} (h : s.ge.mode ≠ .fixed) (es : List Entry) : oneGrantPerChain (s.grants es) := by
  rw [grants_of_not_fixed h]
  exact List.pairwise_map.2 (oneWorkingPerChain_fitCurrent (oneWorkingPerChain_stageEntries s [] es))

/-- What a FRAME flip at a frame start leaves as it stood (R29, R126). -/
theorem frameFlip_keeps (s : State) (f : Frame) : (s.frameFlip f).rh = s.rh ∧ (s.frameFlip f).te = s.te
    ∧ (s.frameFlip f).sa = s.sa ∧ (s.frameFlip f).tg = s.tg ∧ (s.frameFlip f).inHand = s.inHand
    ∧ (s.frameFlip f).li.downPath = s.li.downPath ∧ (s.frameFlip f).ge.mode = s.ge.mode := by
  unfold State.frameFlip
  repeat' split
  · refine ⟨by simp, by simp, by simp, by simp, by simp, by simp, ?_⟩
    simp [State.applyFlip_eq, State.exchanged, State.flipEnded, State.absentReset, State.slewCleared, State.banksExchanged]
  · exact ⟨rfl, rfl, rfl, rfl, rfl, rfl, rfl⟩

theorem raised_posted_iff (s : State) (slot : Nat) (gs : List Grant) {c : NoticeClass} (hloss : c ≠ .loss)
    (hwater : c ≠ .watermark) : raised c (s.posted slot gs) ↔ raised c s
      ∨ (s.ge.mode = .active ∧ ((c = .shed ∧ ∃ g ∈ gs, g.reason = .shed) ∨ (c = .floor ∧ ∃ g ∈ gs, g.reason = .floor))) := by
  have hge : ((s.grantRecord slot gs).grantNote slot gs).ge = s.ge := by
    rw [← (logsOnly_grantRecord s slot gs).ge]
    unfold State.grantNote
    (repeat' split) <;> rfl
  rw [State.posted, raised_shedFloorNotices_iff, hge, raised_grantNote_iff, raised_grantRecord_iff hloss hwater]

theorem grantNote_mem_posted (s : State) (slot : Nat) (gs : List Grant) (ws : List Word) :
    GovFrame.grantNote ws ∈ (s.posted slot gs).li.insert ↔ GovFrame.grantNote ws ∈ s.li.insert
      ∨ (((∃ g ∈ gs, g.value ≠ g.entry.request) ∧ s.ge.mode ≠ .monitor ∧ s.param .grantNotes = 1
          ∧ (s.grantRecord slot gs).li.insert.length ≤ 2)
        ∧ ws = Word.ofNatural slot :: (changedEntries gs).map GrantEntry.word) := by
  have hlogs := logsOnly_grantRecord s slot gs
  rw [State.posted, grantNote_mem_shedFloorNotices, grantNote_mem_grantNote, grantNote_mem_grantRecord, hlogs.ge,
    param_congr hlogs.rh]

theorem posted_ol (s : State) (slot : Nat) (gs : List Grant) : (s.posted slot gs).ol = (s.grantRecord slot gs).ol := by
  have hnote (t : State) : (t.grantNote slot gs).ol = t.ol := by
    unfold State.grantNote
    (repeat' split) <;> rfl
  have hnotices (t : State) : (t.shedFloorNotices gs).ol = t.ol := by
    simp only [State.shedFloorNotices]
    (repeat' split) <;> simp only [State.raise_ol]
  rw [State.posted, hnotices, hnote]

section
variable (s : State) (f : Frame) (gs : List Grant) (outs : List (Chain × Power)) (y : ThermalEstimator) (n : Nat)

theorem unevaluated_rh : (unevaluated s f gs outs y n).rh = s.rh := (logsOnly_posted s _ gs).rh

theorem unevaluated_tg : (unevaluated s f gs outs y n).tg = s.tg := (logsOnly_posted s _ gs).tg

theorem unevaluated_ol : (unevaluated s f gs outs y n).ol = (s.grantRecord (slotNumber f.payload) gs).ol := posted_ol s _ gs

theorem unevaluated_sa : (unevaluated s f gs outs y n).sa = charged s.sa n := rfl

/-- The Supply Allocator after the charge evaluation of an order (R77, R82). -/
theorem evaluated_sa : (unevaluated s f gs outs y n).evalCharge.sa = { charged s.sa n with
    charge := nextCharge (charged s.sa n).windowSum (s.param .chargeAllowance) s.sa.charge } := by
  rw [State.evalCharge_sa, unevaluated_sa, param_congr (unevaluated_rh s f gs outs y n)]
  rfl

theorem raised_evaluated_iff {c : NoticeClass} (hcharge : c ≠ .charge) (hloss : c ≠ .loss) (hwater : c ≠ .watermark) :
    raised c (unevaluated s f gs outs y n).evalCharge ↔ raised c s
      ∨ (s.ge.mode = .active ∧ ((c = .shed ∧ ∃ g ∈ gs, g.reason = .shed) ∨ (c = .floor ∧ ∃ g ∈ gs, g.reason = .floor))) := by
  rw [raised_evalCharge_iff hcharge hloss hwater, ← raised_posted_iff s (slotNumber f.payload) gs hloss hwater]
  exact raised_congr rfl rfl

theorem grantNote_mem_evaluated (ws : List Word) :
    GovFrame.grantNote ws ∈ (unevaluated s f gs outs y n).evalCharge.li.insert ↔ GovFrame.grantNote ws ∈ s.li.insert
      ∨ (((∃ g ∈ gs, g.value ≠ g.entry.request) ∧ s.ge.mode ≠ .monitor ∧ s.param .grantNotes = 1
          ∧ (s.grantRecord (slotNumber f.payload) gs).li.insert.length ≤ 2)
        ∧ ws = Word.ofNatural (slotNumber f.payload) :: (changedEntries gs).map GrantEntry.word) := by
  rw [grantNote_mem_evalCharge, ← grantNote_mem_posted]
  rfl

theorem evaluated_ol_of_same (h : (unevaluated s f gs outs y n).evalCharge.sa.charge = s.sa.charge) :
    (unevaluated s f gs outs y n).evalCharge.ol = (s.grantRecord (slotNumber f.payload) gs).ol := by
  rw [(evalCharge_laws _).2.1 h, unevaluated_ol]

theorem evaluated_ol_of_change (h : (unevaluated s f gs outs y n).evalCharge.sa.charge ≠ s.sa.charge) :
    (unevaluated s f gs outs y n).evalCharge.ol = ((s.grantRecord (slotNumber f.payload) gs).record
      (.charge s.sa.charge (unevaluated s f gs outs y n).evalCharge.sa.charge
        (unevaluated s f gs outs y n).evalCharge.sa.windowSum s.stamp)).ol := by
  have hlogs := logsOnly_grantRecord s (slotNumber f.payload) gs
  have hstamp : (unevaluated s f gs outs y n).stamp = s.stamp :=
    congrArg (fun g : TickGenerator => g.counter % 65536) (unevaluated_tg s f gs outs y n)
  rw [evalCharge_ol_of_change h, hstamp]
  exact record_ol_congr (unevaluated_ol s f gs outs y n) ((unevaluated_rh s f gs outs y n).trans hlogs.rh.symm)
    ((unevaluated_tg s f gs outs y n).trans hlogs.tg.symm) _

/-- What an order leaves alone but for its frame, the estimator, the allocator and the engine. -/
theorem logsOnly_evaluated : logsOnly { s with
    te := y
    sa := (unevaluated s f gs outs y n).evalCharge.sa
    li := { s.li with downPath := s.li.downPath ++ [governedFrame f (outs.map Prod.snd)] } }
      (unevaluated s f gs outs y n).evalCharge := by
  have heval := (evalCharge_laws (unevaluated s f gs outs y n)).2.2
  have hposted := logsOnly_posted s (slotNumber f.payload) gs
  have hbefore : logsOnly { s with
      te := y
      sa := (unevaluated s f gs outs y n).evalCharge.sa
      li := { s.li with downPath := s.li.downPath ++ [governedFrame f (outs.map Prod.snd)] } }
        ((unevaluated s f gs outs y n).withSa (unevaluated s f gs outs y n).evalCharge.sa) := by
    generalize (unevaluated s f gs outs y n).evalCharge.sa = a
    unfold unevaluated
    generalize s.posted (slotNumber f.payload) gs = p at hposted
    rw [logsOnly] at hposted
    rw [hposted]
    rfl
  exact hbefore.trans heval

end

/-- The downsampling and the GRANT record of an order, as O56 spells them. -/
theorem grantRecord_eq {s : State} {slot : Nat} {gs : List Grant} {u v : State}
    (hv : v = s.withOl { s.ol with grantCounter := (s.ol.grantCounter + 1) % 128 })
    (hu : u = if ∀ g ∈ gs, g.value = g.entry.request then s
      else if (∃ g ∈ gs, g.logAlways = true) ∨ s.ol.grantCounter % 2 ^ s.paramNat .grantDownsample = 0 then
        v.record (.grant (s.ge.mode == .monitor) slot (changedEntries gs) s.stamp)
      else v) : s.grantRecord slot gs = u := by
  subst hv hu
  repeat' split
  · rename_i hfull
    exact grantRecord_of_full hfull
  · rename_i hfull hkept
    exact grantRecord_of_kept (by simpa using hfull) hkept
  · rename_i hfull hkept
    exact grantRecord_of_skipped (by simpa using hfull) hkept

/-- The laws of an order settled in the state `s` with its grants (R22 to R28, R84). -/
theorem settleOrder_laws {s t : State} {f : Frame} {gs : List Grant} {outs : List (Chain × Power)} {y : ThermalEstimator}
    {v : Vector SlewMemory 4} {n : Nat}
    (ht : t = ((unevaluated s f gs outs y n).evalCharge.withGe { s.ge with slew := v }).streamLive) :
    t.li.downPath = s.li.downPath ++ [governedFrame f (outs.map Prod.snd)]
      ∧ t.te = y
      ∧ t.sa = { charged s.sa n with
          charge := nextCharge (charged s.sa n).windowSum (s.param .chargeAllowance) s.sa.charge }
      ∧ t.ge = { s.ge with slew := v, stream := .live, quietCount := 0 }
      ∧ t.inHand = { s.inHand with tick := { s.inHand.tick with ordered := s.inHand.tick.ge } }
      ∧ logsOnly { s with
          te := t.te
          sa := t.sa
          ge := t.ge
          inHand := t.inHand
          li := { s.li with downPath := t.li.downPath } } t := by
  have hlogs := logsOnly_evaluated s f gs outs y n
  have hsa := evaluated_sa s f gs outs y n
  generalize (unevaluated s f gs outs y n).evalCharge = e at ht hlogs hsa
  rw [logsOnly_iff] at hlogs
  obtain ⟨hrh, -, hte, hms, -, hcs, hcb, hti, htg, hpins, hinHand, hpending, hrxDown, hrxUp, hdown, htransit, houtUp, houtDown,
    hwordUp, hwordDown, hlast⟩ := hlogs
  subst ht
  refine ⟨hdown, hte, hsa, rfl, ?_, ?_⟩
  · rw [State.streamLive_inHand, State.withGe_inHand, hinHand]
  · rw [logsOnly_iff]
    exact ⟨hrh, rfl, rfl, hms, rfl, hcs, hcb, hti, htg, hpins, rfl, hpending, hrxDown, hrxUp, rfl, htransit, houtUp, houtDown,
      hwordUp, hwordDown, hlast⟩

theorem charged_buckets (a : SupplyAllocator) (n : Nat) :
    (∀ i : Fin 15, (charged a n).buckets.get ⟨i.val, by omega⟩ = a.buckets.get ⟨i.val, by omega⟩)
      ∧ (charged a n).buckets.get 15 = a.buckets.get 15 + min n (bucketMax - a.buckets.get 15) := by
  refine ⟨fun i => ?_, ?_⟩
  · rw [charged, set_open_get, if_neg fun h => absurd (congrArg Fin.val h) (Nat.ne_of_lt i.isLt)]
  · rw [charged, set_open_get, if_pos rfl]
    rfl

/-- Settles O56: the flip, then the order by `settleOrder_laws`, its log and its notes by the laws of its parts. -/
theorem governedOrdersAreSentAndAccounted : Obligations.GovernedOrdersAreSentAndAccounted := by
  refine ⟨fun s x q n gs => ⟨rfl, fun _ => rfl, ?_, rfl⟩, ?_⟩
  · simp only [slotShare]
    norm_cast
  intro b s s1 v u f gs outs d note hf harrives hgood hlength hthermal hs1 hgs houts hd hv hu hnote
  have hflip : s1 = (heard s).frameFlip f := hs1
  obtain ⟨hrh, hte, hsa, htg, hinHand, hdown, hmode⟩ := frameFlip_keeps (heard s) f
  rw [← hflip] at hrh hte hsa htg hinHand hdown hmode
  have hexec : exec (.slotOrder b) s = .next (s1.settleOrder f gs) := by
    have hrow : exec (.slotOrder b) s = .next ((heard s).takeSlotOrder f) := by
      subst hf
      exact congrArg _ (onFrame_down harrives _)
    rw [hrow, State.takeSlotOrder, if_neg (by rw [hgood]; decide), if_neg (by rw [hlength]; decide), State.govern, ← hflip, ← hgs]
  clear hs1 hflip hf
  obtain ⟨hte, hsa, hinHand, hdown, hmode⟩ : s1.te = s.te ∧ s1.sa = s.sa ∧ s1.inHand = s.inHand ∧ s1.li.downPath = s.li.downPath
    ∧ s1.ge.mode = s.ge.mode := ⟨hte, hsa, hinHand, hdown, hmode⟩
  have hparam (p : ParamId) : s.param p = s1.param p := (param_congr hrh p).symm
  have hdownsample : s.paramNat .grantDownsample = s1.paramNat .grantDownsample := congrArg Int.toNat (hparam _)
  have hstamp : s.stamp = s1.stamp := (congrArg (fun g : TickGenerator => g.counter % 65536) htg).symm
  rw [← hmode, hdownsample, hstamp] at hu
  rw [← hmode] at houts
  have hrecord : s1.grantRecord (slotNumber f.payload) gs = u := grantRecord_eq hv hu
  obtain ⟨y, w, hsettle, hheat, hslew, hfixed, hwrite⟩ := settleOrder_eq houts hd fun m => by
    rw [hte]
    exact ((thermalSound_iff s).1 hthermal m).2
  obtain ⟨t, ht⟩ : ∃ t, t = s1.settleOrder f gs := ⟨_, rfl⟩
  rw [hsettle] at ht
  obtain ⟨htdown, htte, htsa, htge, htinHand, htlogs⟩ := settleOrder_laws ht
  obtain ⟨hopen, hlast⟩ := charged_buckets s1.sa (orderLoad s1 d outs)
  have hcharges : t.sa.charge = (unevaluated s1 f gs outs y (orderLoad s1 d outs)).evalCharge.sa.charge := by rw [ht]; rfl
  have hsums : t.sa.windowSum = (unevaluated s1 f gs outs y (orderLoad s1 d outs)).evalCharge.sa.windowSum := by rw [ht]; rfl
  have hol : t.ol = (unevaluated s1 f gs outs y (orderLoad s1 d outs)).evalCharge.ol := by rw [ht]; rfl
  have hli : t.li = (unevaluated s1 f gs outs y (orderLoad s1 d outs)).evalCharge.li := by rw [ht]; rfl
  have hnu : t.nu = (unevaluated s1 f gs outs y (orderLoad s1 d outs)).evalCharge.nu := by rw [ht]; rfl
  have hraised (c : NoticeClass) : raised c t ↔ raised c (unevaluated s1 f gs outs y (orderLoad s1 d outs)).evalCharge :=
    raised_congr hnu (congrArg LinkInterface.insert hli)
  have hsame (h : t.sa.charge = s1.sa.charge) : t.ol = u.ol := by
    rw [hol, evaluated_ol_of_same _ _ _ _ _ _ (hcharges ▸ h), hrecord]
  have hnotes := grantNote_mem_evaluated s1 f gs outs y (orderLoad s1 d outs)
  simp only [← hli, hrecord, ← hnote] at hnotes
  rw [← hte, ← hsa, ← hinHand, ← hdown, ← hmode, hstamp, hdownsample, hparam, hparam, hparam]
  refine ⟨t, hexec.trans (congrArg _ (hsettle.trans ht.symm)), htdown, fun m => by rw [htte, hheat],
    fun i => by rw [htsa]; exact hopen i, by rw [htsa]; exact hlast, by rw [htsa]; rfl, by rw [htsa]; rfl, by rw [htsa],
    by rw [htge], by rw [htge], by rw [htge], fun h => by rw [htge]; exact hfixed h, fun h g hg q hq => ?_, fun c hc => ?_, hsame,
    fun h => ⟨?_, ?_⟩, fun h hchanged hlog hkept => ?_, fun hchanged hmonitor hon hplace => ?_, fun hnone ws hmem => ?_,
    fun hactive hshed => ?_, fun hactive hfloor => ?_, fun hnone hshed => ?_, fun hnone hfloor => ?_, htinHand, htlogs⟩
  · rw [htge]
    exact hwrite h (hgs ▸ oneGrantPerChain_grants h _) g hg q hq
  · rw [htge]
    exact hslew c hc
  · rw [hol, hcharges, hsums, ← hrecord]
    exact evaluated_ol_of_change s1 f gs outs y (orderLoad s1 d outs) (hcharges ▸ h)
  · exact (hraised .charge).2 ((evalCharge_laws _).1 (hcharges ▸ h)).1
  · have hu' : u = v.record (.grant (s1.ge.mode == .monitor) (slotNumber f.payload) (changedEntries gs) s1.stamp) := by
      rw [hu, if_neg (by simpa using hchanged), if_pos hkept]
    rw [newest_congr (hsame h), hu', newest_record]
    rw [hv]
    exact hlog
  · exact (hnotes note).2 (.inr ⟨⟨hchanged, hmonitor, hon, hplace⟩, rfl⟩)
  · rcases (hnotes ws).1 hmem with hbefore | ⟨⟨⟨g, hg, hdiffers⟩, hmonitor, hon, hplace⟩, -⟩
    · exact hbefore
    · rcases hnone with h | h | h | h
      · exact absurd (h g hg) hdiffers
      · exact absurd h hmonitor
      · exact absurd hon h
      · omega
  · exact (hraised .shed).2 ((raised_evaluated_iff s1 f gs outs y _ (by decide) (by decide) (by decide)).2
      (.inr ⟨hactive, .inl ⟨rfl, hshed⟩⟩))
  · exact (hraised .floor).2 ((raised_evaluated_iff s1 f gs outs y _ (by decide) (by decide) (by decide)).2
      (.inr ⟨hactive, .inr ⟨rfl, hfloor⟩⟩))
  · rcases (raised_evaluated_iff s1 f gs outs y _ (by decide) (by decide) (by decide)).1 ((hraised .shed).1 hshed)
      with hbefore | ⟨hactive, ⟨-, g, hg, hreason⟩ | ⟨hclass, -⟩⟩
    · exact hbefore
    · exact (hnone.elim (fun h => h hactive) fun h => h g hg hreason).elim
    · cases hclass
  · rcases (raised_evaluated_iff s1 f gs outs y _ (by decide) (by decide) (by decide)).1 ((hraised .floor).1 hfloor)
      with hbefore | ⟨hactive, ⟨hclass, -⟩ | ⟨-, g, hg, hreason⟩⟩
    · exact hbefore
    · cases hclass
    · exact (hnone.elim (fun h => h hactive) fun h => h g hg hreason).elim

end Sys2Proof.Safety
end

section
/-! PROOFS. A telemetry frame and its readings (O59). -/

namespace Sys2Proof.Machine

/-! ### Reading words (R171) and the domains of the kinds (section 7.2) -/

theorem readingRaw_laws (w : Word) : (readingRaw w - bits w 0 12) % 4096 = 0 ∧ -2048 ≤ readingRaw w ∧ readingRaw w ≤ 2047 := by
  have hfield : bits w 0 12 < 4096 := Nat.mod_lt _ (by decide)
  unfold readingRaw signedField
  simp only [Nat.reduceSub, Nat.reducePow, Int.reducePow]
  (repeat' split) <;> omega

theorem clamp_eq {lo hi : Int} (h : lo ≤ hi) (v : Int) : clamp lo hi v = max lo (min hi v) := by
  unfold clamp
  (repeat' split) <;> omega

theorem railCode_iff (raw : Int) : railCode raw = true ↔ raw = -2048 ∨ raw = 2047 := by
  simp [railCode]

/-! ### One reading, case by case (R136, R137) -/

section
variable {s : State} {w : Word}

theorem handleReading_of_none (h : (s.ti.map.get (readingChannel w)).kind = none) : s.handleReading w = s := by
  simp only [State.handleReading, h]

theorem handleReading_of_rail {k : ObsKind} (h : (s.ti.map.get (readingChannel w)).kind = some k)
    (hrail : readingRaw w = -2048 ∨ readingRaw w = 2047) :
    s.handleReading w = s.setObs k { s.obsOf k with saturated := true } := by
  simp only [State.handleReading, h, (railCode_iff _).2 hrail, if_true]

theorem handleReading_of_accepted {k : ObsKind} (h : (s.ti.map.get (readingChannel w)).kind = some k)
    (hlow : readingRaw w ≠ -2048) (hhigh : readingRaw w ≠ 2047) : s.handleReading w
      = s.acceptReading k (obsClamp k (readingRaw w + (s.ti.map.get (readingChannel w)).offset)) := by
  have hrail : railCode (readingRaw w) = false := by
    rw [Bool.eq_false_iff, Ne, railCode_iff]
    omega
  simp only [State.handleReading, h, hrail, Bool.false_eq_true, if_false]

theorem acceptReading_eq {k : ObsKind} {v : Int} {s1 u : State}
    (hs1 : s1 = s.setObs k { value := v, fresh := s.paramNat .staleTicks, saturated := false })
    (hu : u = if (s.obsOf k).fresh = 0 then (s1.record (.stale false k s.stamp)).raise .stale else s1) :
    s.acceptReading k v = (u.offerReading k v).deliverReading k v := by
  have hfresh : s.isFresh k = true ↔ ¬ (s.obsOf k).fresh = 0 := by
    simp only [State.isFresh, decide_eq_true_eq]
    omega
  rw [hu, hs1, State.acceptReading, ite_cond_congr (propext hfresh), ite_not]

end

/-! ### Die corrections (R39) -/

theorem correctedRise_cast (rise : Nat) (measured ref gain : Int) :
    (correctedRise rise measured ref gain : Int) = clamp 0 1023 (rise + ((measured - ref - rise) * gain).tdiv 256) :=
  Int.toNat_of_nonneg (clamp_bounds (by decide) _).1

/-- A module's rise corrected by its die temperature, before its zone is evaluated. -/
def State.corrected (s : State) (m : Module) (v : Int) : State :=
  s.withTe (s.te.set m { s.te.get m with rise := correctedRise (s.te.get m).rise v s.boardRef (s.param .gamma) })

theorem State.dieCorrection_eq (s : State) (m : Module) (v : Int) : s.dieCorrection m v = (s.corrected m v).evalZone m := rfl

theorem State.corrected_get (s : State) (m n : Module) (v : Int) : (s.corrected m v).te.get n = { s.te.get n with
    rise := if n = m then correctedRise (s.te.get m).rise v s.boardRef (s.param .gamma) else (s.te.get n).rise } := by
  rw [State.corrected, State.withTe_te]
  split
  · rename_i h
    rw [h, ThermalEstimator.get_set_self]
  · rename_i h
    rw [ThermalEstimator.get_set_of_ne _ _ _ _ h]

theorem State.corrected_rise (s : State) (m n : Module) (v : Int) : (((s.corrected m v).te.get n).rise : Int)
    = if n = m then clamp 0 1023 ((s.te.get m).rise + ((v - s.boardRef - (s.te.get m).rise) * s.param .gamma).tdiv 256)
      else (s.te.get n).rise := by
  rw [State.corrected_get, ← correctedRise_cast, apply_ite (Nat.cast : Nat → Int)]

end Sys2Proof.Machine

namespace Sys2Proof.Safety

open Sys2Proof.Machine

/-! ### A reflected power by the parameters and the mismatch records alone (R55 to R59) -/

theorem setChain_ms_congr {s t : State} (hms : t.ms = s.ms) (c : Chain) (r : ChainRecord) :
    (t.setChain c r).ms = (s.setChain c r).ms := by
  simp only [State.setChain, State.withMs_ms, hms]

section
variable {s t : State} (hrh : t.rh = s.rh) (hms : t.ms = s.ms)
include hrh hms

theorem worsen_ms_congr (c : Chain) (new : MismatchState) : (t.worsen c new).ms = (s.worsen c new).ms := by
  simp only [State.worsen, hms, param_congr hrh]
  repeat' split
  · rw [State.changeMismatch_ms, State.changeMismatch_ms, hms, State.paramNat, State.paramNat, param_congr hrh]
  · exact setChain_ms_congr hms c _

theorem evaluateReading_ms_congr (c : Chain) (rl : Int) : (t.evaluateReading c rl).ms = (s.evaluateReading c rl).ms := by
  have hclass : t.classOf rl = s.classOf rl := by
    rw [State.classOf, State.classOf, param_congr hrh, param_congr hrh]
  have himproves (m : MismatchState) : t.improves m rl = s.improves m rl := by
    simp only [State.improves, decide_eq_decide]
    cases m <;> simp only [State.improvingBase, param_congr hrh]
  have hworsen (r : ChainRecord) (new : MismatchState) :
      ((t.setChain c r).worsen c new).ms = ((s.setChain c r).worsen c new).ms :=
    worsen_ms_congr (s := s.setChain c r) (t := t.setChain c r) hrh (setChain_ms_congr hms c r) c new
  have hget : t.ms.get c = s.ms.get c := congrArg (fun v : Vector ChainRecord 4 => v.get c) hms
  cases hstate : (s.ms.get c).state with
  | matched =>
    rw [State.evaluateReading_matched hstate, State.evaluateReading_matched (s := t) (hget ▸ hstate), hclass, hget]
    cases s.classOf rl with
    | good => exact setChain_ms_congr hms c _
    | poor | bad => exact hworsen _ _
  | detuned =>
    rw [State.evaluateReading_detuned hstate, State.evaluateReading_detuned (s := t) (hget ▸ hstate), hclass, hget, himproves]
    cases s.classOf rl with
    | good | poor => exact setChain_ms_congr hms c _
    | bad => exact hworsen _ _
  | severe =>
    rw [State.evaluateReading_severe hstate, State.evaluateReading_severe (s := t) (hget ▸ hstate), hget, himproves]
    exact setChain_ms_congr hms c _
  | parked => rw [State.evaluateReading_parked hstate, State.evaluateReading_parked (s := t) (hget ▸ hstate), hms]

theorem reflDelivered_ms_congr {c : Chain} (hobs : t.obsOf (.fwd c) = s.obsOf (.fwd c)) (v : Int) :
    (t.reflDelivered c v).ms = (s.reflDelivered c v).ms := by
  have hcounts : t.reflCounts c = s.reflCounts c := by
    rw [State.reflCounts, State.reflCounts, State.isFresh, State.isFresh, hobs, hms, param_congr hrh]
  rw [State.reflDelivered, State.reflDelivered, hcounts, hobs]
  repeat' split
  · exact evaluateReading_ms_congr hrh hms c _
  · exact hms

end

/-! ### A delivery loses no class -/

section
variable {c : NoticeClass} {s : State} (h : raised c s)
include h

theorem raised_worsen (d : Chain) (new : MismatchState) : raised c (s.worsen d new) := by
  have hset (r : ChainRecord) : raised c (s.setChain d r) := h
  simp only [State.worsen, State.changeMismatch]
  repeat' split
  · exact raised_raise (raised_record (hset _) _) _
  · exact hset _

theorem raised_evaluateReading (d : Chain) (rl : Int) : raised c (s.evaluateReading d rl) := by
  have hset (r : ChainRecord) : raised c (s.setChain d r) := h
  cases hstate : (s.ms.get d).state with
  | matched =>
    rw [State.evaluateReading_matched hstate]
    cases s.classOf rl with
    | good => exact hset _
    | poor | bad => exact raised_worsen (hset _) d _
  | detuned =>
    rw [State.evaluateReading_detuned hstate]
    cases s.classOf rl with
    | good | poor => exact hset _
    | bad => exact raised_worsen (hset _) d _
  | severe =>
    rw [State.evaluateReading_severe hstate]
    exact hset _
  | parked => rwa [State.evaluateReading_parked hstate]

theorem raised_offerReading (k : ObsKind) (v : Int) : raised c (s.offerReading k v) := by
  have hcount (x : ObservationLog) : raised c (s.withOl x) := h
  simp only [State.offerReading]
  repeat' split
  · exact h
  · exact raised_record (hcount _) _
  · exact hcount _

theorem raised_deliverReading (k : ObsKind) (v : Int) : raised c (s.deliverReading k v) := by
  have hte (x : ThermalEstimator) : raised c (s.withTe x) := h
  cases k with
  | dieA | dieB => exact raised_evalZone (hte _) _
  | board => exact raised_evalZone (raised_evalZone h .a) .b
  | fwd d | battV => exact h
  | refl d =>
    rw [State.deliverReading, State.reflDelivered]
    repeat' split
    · exact raised_evaluateReading h d _
    · exact h

end

/-! ### An accepted reading before its delivery (R137, R138) -/

section
variable {s s1 u : State} {k : ObsKind} {v : Int}
  (hs1 : s1 = s.setObs k { value := v, fresh := s.paramNat .staleTicks, saturated := false })
  (hu : u = if (s.obsOf k).fresh = 0 then (s1.record (.stale false k s.stamp)).raise .stale else s1)

include hu in
theorem logsOnly_accepted : logsOnly s1 (u.offerReading k v) := by
  refine logsOnly.trans ?_ (logsOnly_offerReading u k v)
  rw [hu]
  repeat' split
  · exact (logsOnly_record _ _).trans (logsOnly_raise _ _)
  · exact .refl s1

include hs1 hu in
/-- What a reading leaves as it stood before its delivery, and the observation it stores. -/
theorem accepted_keeps : (u.offerReading k v).rh = s.rh ∧ (u.offerReading k v).te = s.te ∧ (u.offerReading k v).ms = s.ms
    ∧ (u.offerReading k v).ti.map = s.ti.map
    ∧ ∀ j, (u.offerReading k v).obsOf j
      = if j = k then { value := v, fresh := s.paramNat .staleTicks, saturated := false } else s.obsOf j := by
  have hlogs := logsOnly_accepted (k := k) (v := v) hu
  rw [logsOnly_iff] at hlogs
  obtain ⟨hrh, -, hte, hms, -, -, -, hti, -⟩ := hlogs
  rw [hs1] at hrh hte hms hti
  refine ⟨hrh, hte, hms, by rw [hti]; rfl, fun j => ?_⟩
  rw [obsOf_congr hti, setObs_obsOf]

end

/-- What a reading leaves but for the observations, the estimator, the mismatch records, the log and the notices. -/
theorem logsOnly_acceptReading (s : State) (k : ObsKind) (v : Int) : logsOnly { s with
    ti := (s.acceptReading k v).ti, te := (s.acceptReading k v).te, ms := (s.acceptReading k v).ms } (s.acceptReading k v) := by
  rw [logsOnly_iff]
  simp

/-- BOARD delivered while it is fresh: both zones are evaluated against it. -/
theorem evalZones_get_of_board {a s : State} {v : Int} (hrh : a.rh = s.rh) (hte : a.te = s.te) (hboard : a.boardRef = v)
    (m : Module) : a.evalZones.te.get m = { s.te.get m with
      zone := nextZone (v + (s.te.get m).rise) (s.param .warm) (s.param .hot) (s.param .critical) (s.param .zoneHysteresis)
        (s.te.get m).zone } := by
  rw [evalZones_get, evaluatedZone, hboard, hte]
  simp only [param_congr hrh]

/-- A die temperature delivered: the rise and the zone of its module alone. -/
theorem dieCorrection_get {a s : State} {v : Int} (hrh : a.rh = s.rh) (hte : a.te = s.te) (hboard : a.boardRef = s.boardRef)
    {m n : Module} (hmn : m ≠ n) : (a.dieCorrection m v).te.get n = s.te.get n
      ∧ ((a.dieCorrection m v).te.get m).heat = (s.te.get m).heat
      ∧ (((a.dieCorrection m v).te.get m).rise : Int) = clamp 0 1023 ((s.te.get m).rise
          + ((v - s.boardRef - (s.te.get m).rise) * s.param .gamma).tdiv 256)
      ∧ ((a.dieCorrection m v).te.get m).zone = nextZone (s.boardRef + ((a.dieCorrection m v).te.get m).rise) (s.param .warm)
          (s.param .hot) (s.param .critical) (s.param .zoneHysteresis) (s.te.get m).zone := by
  have href : (a.corrected m v).boardRef = s.boardRef := hboard
  have hparam (p : ParamId) : (a.corrected m v).param p = s.param p := param_congr (s := s) (t := a.corrected m v) hrh p
  have hother : (a.corrected m v).te.get n = s.te.get n := by
    rw [State.corrected_get, if_neg hmn.symm, hte]
  have hrise := a.corrected_rise m m v
  rw [if_pos rfl, hte, hboard, param_congr hrh] at hrise
  rw [State.dieCorrection_eq, evalZone_get, if_neg hmn.symm, evalZone_get, if_pos rfl]
  refine ⟨hother, ?_, hrise, ?_⟩
  · rw [State.corrected_get, hte]
  · simp only [evaluatedZone, href, hparam, State.corrected_get, hte]

/-! ### Frames in parts (R130, R131) -/

theorem observe_of_all {f : Frame} {now : Nat} (h : f.payload.length ≤ now) (s : State) :
    s.observe f now = (f.payload.foldl (fun t w => t.handleReading w) s).offerTransit f := by
  rw [State.observe, State.handleNext_end _ _ _ h, State.handleReadings_eq_foldl]

theorem observe_of_some {f : Frame} {now : Nat} (h : now < f.payload.length) (s : State) :
    s.observe f now = ((f.payload.take now).foldl (fun t w => t.handleReading w) s).withInHand
      { s.inHand with intake := some { frame := f, rest := f.payload.drop now } } := by
  rw [State.observe, State.handleNext_more _ _ _ h, State.handleReadings_eq_foldl]

/-- Settles O59: the frame by its parts, each reading by its case, its delivery by the consumer of its kind. -/
theorem telemetryIsObservedAndPassedOn : Obligations.TelemetryIsObservedAndPassedOn := by
  refine ⟨fun b now s harrives hintake => ?_, fun n s hheld => ⟨fun hnone => ?_, fun f rest u hintake hu => ?_⟩,
    fun k v s s1 u hs1 hu => ⟨acceptReading_eq hs1 hu, fun hstale => ?_⟩, fun v s => ⟨fun c => ⟨rfl, rfl⟩, rfl, rfl, ?_⟩,
    fun w v => ?_, ?_⟩
  · have hexec : exec (.telemetry (.frame b) now) s
        = .next ((s.setRx .upstream .seeking).takeTelemetry (bodyFrame kindTelemetry b) now) :=
      congrArg _ (onFrame_up harrives _)
    have hsettle : (s.setRx .upstream .seeking).settleIntake = s.setRx .upstream .seeking := State.settleIntake_none _ hintake
    rw [hexec, State.takeTelemetry, hsettle]
    refine ⟨fun hbad => ?_, fun hgood hall => ?_, fun hgood hsome => ?_⟩
    · rw [if_neg (by rw [hbad]; decide)]
    · rw [if_pos hgood, observe_of_all hall]
      rfl
    · rw [if_pos hgood, observe_of_some hsome]
      rfl
  · refine congrArg _ ((if_neg (by rw [hheld]; decide)).trans (State.observeFurther_none s n hnone))
  · have hexec : exec (.telemetry .further n) s = .next (u.handleNext { frame := f, rest := rest } n) := by
      refine congrArg _ ((if_neg (by rw [hheld]; decide)).trans ((State.observeFurther_some s n _ hintake).trans ?_))
      rw [hu]
      rfl
    refine ⟨fun hall => ?_, fun hsome => ?_⟩
    · rw [hexec, State.handleNext_end _ _ _ hall, State.handleReadings_eq_foldl]
    · rw [hexec, State.handleNext_more _ _ _ hsome, State.handleReadings_eq_foldl, hu]
      rfl
  · rw [if_pos hstale] at hu
    refine ⟨?_, fun hmode => ?_⟩
    · rw [acceptReading_eq hs1 (u := u) (by rw [if_pos hstale, hu])]
      refine raised_deliverReading (raised_offerReading ?_ k v) k v
      rw [hu]
      exact raised_raise_self _ _
    · have hlog : s1.param .logMode = 1 := by
        rw [hs1]
        exact hmode
      rw [hu]
      exact newest_record_raise hlog _ _
  · rintro k m hkm
    refine ⟨s.corrected m v, ?_, rfl, fun n => ⟨?_, s.corrected_rise m n v⟩⟩
    · rcases hkm with ⟨rfl, rfl⟩ | ⟨rfl, rfl⟩ <;> rfl
    · rw [State.corrected_get]
  · refine ⟨rfl, (readingRaw_laws w).1, (readingRaw_laws w).2.1, (readingRaw_laws w).2.2, fun k hk => ?_,
      clamp_eq (by decide) v, fun c => ⟨clamp_eq (by decide) v, clamp_eq (by decide) v⟩⟩
    rcases List.mem_cons.1 hk with rfl | hk
    · exact clamp_eq (by decide) v
    rcases List.mem_cons.1 hk with rfl | hk
    · exact clamp_eq (by decide) v
    obtain rfl := List.mem_singleton.1 hk
    exact clamp_eq (by decide) v
  · rintro w e s t rfl rfl
    refine ⟨handleReading_of_none, fun k => handleReading_of_rail, fun k v hkind hlow hhigh hv => ?_⟩
    obtain ⟨s1, hs1⟩ : ∃ s1, s1 = s.setObs k { value := v, fresh := s.paramNat .staleTicks, saturated := false } := ⟨_, rfl⟩
    obtain ⟨u, hu⟩ : ∃ u, u = if (s.obsOf k).fresh = 0 then (s1.record (.stale false k s.stamp)).raise .stale else s1 := ⟨_, rfl⟩
    have haccept : s.handleReading w = s.acceptReading k v := hv ▸ handleReading_of_accepted hkind hlow hhigh
    have heq := acceptReading_eq hs1 hu
    have hlogs := logsOnly_acceptReading s k v
    obtain ⟨hrh, hte, hms, hmap, hobs⟩ := accepted_keeps hs1 hu
    rw [haccept]
    refine ⟨rfl, ?_, fun j hj => ?_, ?_, fun hk => ?_, fun c hk => ?_, fun hk hticks => ?_, fun m n hmn hk => ?_, hlogs⟩
    · rw [heq, obsOf_congr (State.deliverReading_ti _ k v), hobs, if_pos rfl]
    · rw [heq, obsOf_congr (State.deliverReading_ti _ k v), hobs, if_neg hj]
    · rw [heq, State.deliverReading_ti, hmap]
    · rw [heq]
      rcases hk with rfl | ⟨c, rfl⟩ <;> exact ⟨hte, hms⟩
    · subst hk
      have hfwd : (u.offerReading (.refl c) v).obsOf (.fwd c) = s.obsOf (.fwd c) := by
        rw [hobs, if_neg nofun]
      have hrefl : s.acceptReading (.refl c) v = (u.offerReading (.refl c) v).reflDelivered c v := heq
      rw [hrefl]
      refine ⟨by rw [State.reflDelivered_te, hte], fun d hd => ?_, fun s1' u' hs1' hu' => ?_⟩
      · rw [State.reflDelivered]
        repeat' split
        · rw [evaluateReading_ms_of_ne _ hd, hms]
        · rw [hms]
      · rw [reflDelivered_ms_congr hrh hms hfwd, hu', hs1', hu, hs1]
        exact ⟨rfl, rfl⟩
    · subst hk
      have hzones : s.acceptReading .board v = (u.offerReading .board v).evalZones := heq
      have hboard : (u.offerReading .board v).boardRef = v := by
        have hfresh : (u.offerReading .board v).isFresh .board = true := by
          simp only [State.isFresh, hobs, if_true, decide_eq_true_eq, State.paramNat]
          omega
        rw [State.boardRef, if_pos hfresh, hobs, if_pos rfl]
      rw [hzones]
      exact ⟨by rw [State.evalZones, State.evalZone_ms, State.evalZone_ms, hms], evalZones_get_of_board hrh hte hboard⟩
    · have hcorrection : s.acceptReading k v = (u.offerReading k v).dieCorrection m v := by
        rw [heq]
        rcases hk with ⟨rfl, rfl⟩ | ⟨rfl, rfl⟩ <;> rfl
      have hnotBoard : ObsKind.board ≠ k := by
        rcases hk with ⟨rfl, -⟩ | ⟨rfl, -⟩ <;> decide
      have hboard : (u.offerReading k v).boardRef = s.boardRef := by
        rw [State.boardRef, State.boardRef, State.isFresh, State.isFresh, hobs, if_neg hnotBoard, param_congr hrh]
      rw [hcorrection]
      exact ⟨by rw [State.dieCorrection_ms, hms], dieCorrection_get hrh hte hboard hmn⟩

end Sys2Proof.Safety
end
